-- ==== Sys2Proof/Word.lean ====
section
/-! DEFINITION. The widths of the block's values: the W-bit data word (W = 32, 00_scope.md R8), the 4-bit stage
code (30_encoding.md R82), the 16-bit counters (10_state.md R26, R32), and the two channels (00_scope.md, glossary). -/

namespace Sys2Proof

/-- A data value of W = 32 bits. It stands for the integer `BitVec.toInt` (two's complement, 00_scope.md R10). -/
abbrev Word := BitVec 32

/-- A stage code, as `seq.stage` and `stage_o` hold it (30_encoding.md R82). -/
abbrev Code := BitVec 4

/-- A 16-bit unsigned counter: a failure count (10_state.md R26) or the tick counter (R32). -/
abbrev Count := BitVec 16

/-- One of the two signal paths: `S`, the setpoint dial, or `C`, the current temperature sensor. -/
inductive Channel where
  | S
  | C
  deriving DecidableEq, Repr

end Sys2Proof
end

