-- ==== Sys2Proof/Config.lean ====
section
/-! DEFINITION. The build-time configuration `cfg` (00_scope.md R6, R8; 10_state.md R38): its fields, a set of
parameters before it is checked (60_exceptions.md R231), the reasons a check fails with, and the one configuration
that `State.reset` uses. -/

namespace Sys2Proof

/-- Which filter of a channel runs first (00_scope.md R8, 47_sequencer_tick.md R211). -/
inductive FilterOrder where
  | plausThenMean
  | meanThenPlaus
  deriving DecidableEq, Repr

/-- `cfg.FILTER_ORDER` as the one bit it is (30_encoding.md R91). -/
def FilterOrder.bit : FilterOrder → BitVec 1
  | .plausThenMean => 0
  | .meanThenPlaus => 1

/-- A set of parameters as offered to construction, before any check (60_exceptions.md R231).
The max-jumps and the fail tolerances are unsigned: a negative one "cannot be expressed" (00_scope.md R8,
41_plausible_filter.md R130). The others are integers, so that the checks of R231 have something to refuse. -/
structure RawConfig where
  nS : Int
  nC : Int
  diffS : Nat
  failsS : Nat
  diffC : Nat
  failsC : Nat
  h : Int
  ledIdleDiv : Int
  ledCntMod : Int
  filterOrder : FilterOrder
  deriving DecidableEq, Repr

/-- Why construction refuses a set of parameters: the reasons of 60_exceptions.md R231, codes 1 to 6. -/
inductive ConfigReason where
  /-- codes 1 and 2: a window size below 1 -/
  | windowNotPositive (c : Channel)
  /-- code 3: a half-band below 1 -/
  | halfBandNotPositive
  /-- code 4: `LED_CNT_MOD` outside 1 to 65536 -/
  | ledModulusOutOfRange
  /-- code 5: `LED_IDLE_DIV` outside 1 to `LED_CNT_MOD` -/
  | ledDivisorOutOfRange
  /-- code 6: a parameter that does not fit the width of 10_state.md R38 -/
  | parameterTooWide
  deriving DecidableEq, Repr

/-- The configuration of an instance, every field at the width of 10_state.md R38. No operation writes it. -/
structure Cfg where
  nS : BitVec 16
  nC : BitVec 16
  diffS : BitVec 32
  failsS : BitVec 16
  diffC : BitVec 32
  failsC : BitVec 16
  h : BitVec 31
  ledIdleDiv : BitVec 17
  ledCntMod : BitVec 17
  filterOrder : FilterOrder
  deriving DecidableEq, Repr

/-- The configuration of `State.reset`. DESIGN CHOICE (unsafe, notes/assumptions/1.md): the spec gives no values
(91_not_in_source.md N1); these are the base configuration of its test vectors (95_test_vectors.md section 2.9). -/
def Cfg.base : Cfg where
  nS := 4
  nC := 4
  diffS := 10
  failsS := 3
  diffC := 10
  failsC := 3
  h := 1000
  ledIdleDiv := 4
  ledCntMod := 256
  filterOrder := .plausThenMean

end Sys2Proof
end

