-- ==== Sys2Proof/Syntax.lean ====
section
/-! DEFINITION. The thirteen stage operations (30_encoding.md R81), the block's whole instruction set, one
constructor for each row of spec/opcode_table.json; and the notation of test programs (R88 to R90). -/

namespace Sys2Proof

/-- A stage operation. No operation has an operand or an immediate (30_encoding.md R84, R85). -/
inductive Instr where
  /-- wait for a tick request (47_sequencer_tick.md R213) -/
  | idle
  /-- read both raw samples (42_acquisition_clip.md R140) -/
  | acq
  /-- clip the raw setpoint sample (R142) -/
  | clipS
  /-- clip the raw current-temperature sample (R143) -/
  | clipC
  /-- plausibility filter update, setpoint channel (41_plausible_filter.md R122) -/
  | plausS
  /-- plausibility filter update, current-temperature channel (R123) -/
  | plausC
  /-- mean filter update, setpoint channel (40_mean_filter.md R105) -/
  | meanS
  /-- mean filter update, current-temperature channel (R106) -/
  | meanC
  /-- setpoint step mapping (43_temperature_mapping.md R156) -/
  | mapS
  /-- sensor affine mapping (R158) -/
  | mapC
  /-- hysteresis state machine step (44_control_hysteresis.md R172) -/
  | ctrl
  /-- drive compressor line, update indicator (45_actuation.md R186) -/
  | act
  /-- present the record on the trace ports (46_trace.md R200) -/
  | trace
  deriving DecidableEq, Repr

/-- The pair of raw samples the host presents with one tick request (30_encoding.md R88). -/
structure Stimulus where
  set : Word
  cur : Word
  deriving DecidableEq, Repr

/-- A line of a test program after its CONFIG line (30_encoding.md R90). -/
inductive Action where
  | reset
  | tick (stimulus : Stimulus)
  deriving DecidableEq, Repr

/-- A test program: the CONFIG line, then RESET and TICK lines (30_encoding.md R90). -/
structure Program where
  config : RawConfig
  actions : List Action
  deriving DecidableEq, Repr

end Sys2Proof
end

