-- ==== Sys2Proof/WellFormed.lean ====
section
/-! DEFINITION. What is well formed. An operation has no operand, so every `Instr` is (30_encoding.md R84, R85);
the check with something to refuse is the one on a stage code: the codes 1101, 1110 and 1111 are reserved (R86). -/

namespace Sys2Proof

/-- Every stage operation is well formed: there is no operand field that could be out of range. -/
def Instr.wellFormed : Instr → Bool
  | .idle => true
  | .acq => true
  | .clipS => true
  | .clipC => true
  | .plausS => true
  | .plausC => true
  | .meanS => true
  | .meanC => true
  | .mapS => true
  | .mapC => true
  | .ctrl => true
  | .act => true
  | .trace => true

/-- A stage code that the map of 30_encoding.md R83 assigns to an operation: all but 1101, 1110 and 1111 (R86). -/
def codeAssigned (c : Code) : Bool := c.toNat ≤ 12

end Sys2Proof
end

