-- ==== Sys2Proof/Decode.lean ====
section
/-! DEFINITION. The stage-code map (30_encoding.md R82, R83): decoder, then encoder; the stimulus word (R88); and
the host's `decodeTableWord`. -/

namespace Sys2Proof

/-- The field `unit` of a stage code, bits [3:1] (30_encoding.md R82). -/
def codeUnit (c : Code) : BitVec 3 := c.extractLsb' 1 3

/-- The field `sel` of a stage code, bit [0] (30_encoding.md R82). -/
def codeSel (c : Code) : BitVec 1 := c.extractLsb' 0 1

/-- Why the decoder rejects a code. -/
inductive DecodeError where
  /-- one of the reserved codes 1101, 1110, 1111 (30_encoding.md R86) -/
  | reservedCode (c : Code)
  deriving DecidableEq, Repr

/-- The operation of a stage code, all four bits compared (30_encoding.md R83): `unit` selects the function unit
and `sel` the channel, or one of the unit's two operations (R82). Total; the reserved codes are rejected by name. -/
def decode (c : Code) : Except DecodeError Instr :=
  match (codeUnit c).toNat, (codeSel c).toNat with
  | 0, 0 => .ok .idle
  | 0, 1 => .ok .acq
  | 1, 0 => .ok .clipS
  | 1, 1 => .ok .clipC
  | 2, 0 => .ok .plausS
  | 2, 1 => .ok .plausC
  | 3, 0 => .ok .meanS
  | 3, 1 => .ok .meanC
  | 4, 0 => .ok .mapS
  | 4, 1 => .ok .mapC
  | 5, 0 => .ok .ctrl
  | 5, 1 => .ok .act
  | 6, 0 => .ok .trace
  | _, _ => .error (.reservedCode c)

/-- The stage code of an operation (30_encoding.md R83). -/
def encode : Instr → Code
  | .idle => 0b0000
  | .acq => 0b0001
  | .clipS => 0b0010
  | .clipC => 0b0011
  | .plausS => 0b0100
  | .plausC => 0b0101
  | .meanS => 0b0110
  | .meanC => 0b0111
  | .mapS => 0b1000
  | .mapC => 0b1001
  | .ctrl => 0b1010
  | .act => 0b1011
  | .trace => 0b1100

/-- A stimulus word read as the pair of samples: `cur` in bits [63:32], `set` in bits [31:0] (30_encoding.md R88). -/
def decodeStimulus (w : BitVec 64) : Stimulus where
  set := w.extractLsb' 0 32
  cur := w.extractLsb' 32 32

/-- The stimulus word of a pair of samples (30_encoding.md R88). -/
def encodeStimulus (x : Stimulus) : BitVec 64 := x.cur ++ x.set

/-- The operation the decoder reads from a row of spec/opcode_table.json whose bits are `w`. A stage code has four
bits, so a number that needs more is no stage code. -/
def decodeTableWord (_nbits w : Nat) : Option Instr :=
  if w < 16 then (decode (BitVec.ofNat 4 w)).toOption else none

end Sys2Proof
end

