-- ==== Sys2Proof/Machine/State.lean ====
section
/-! DEFINITION. The state of the block (10_state.md R20 to R42) with its configuration (R38), the levels on its
input ports (20_memory.md R64) and the levels the host will put there next; the reset state (R42, R260); and the
reasons a step can stop. -/

namespace Sys2Proof.Machine

/-- The levels on the input ports at the moment of a step (20_memory.md R64). Not state of the block (R20): the
step has no input argument, so State holds them (notes/assumptions/5.md). -/
structure Pins where
  /-- `rst` -/
  rst : Bool
  /-- `tick_i` -/
  tick : Bool
  /-- `adc_set_i` -/
  adcSet : Word
  /-- `adc_cur_i` -/
  adcCur : Word
  deriving DecidableEq, Repr

/-- The sample record, the block's general registers (10_state.md R21). -/
structure SampleRecord where
  setRaw : Word
  setClip : Word
  curRaw : Word
  curClip : Word
  setMdeg : Word
  curMdeg : Word
  comp : Bool
  deriving DecidableEq, Repr

/-- A mean filter's state (10_state.md R24): `none` is `valid = false`, `some v` is `valid = true, last = v` (R13). -/
structure MeanState where
  valid : Bool
  last : Word
  deriving DecidableEq, Repr

/-- A plausibility filter's state (10_state.md R26). -/
structure PlausState where
  valid : Bool
  last : Word
  fails : Count
  deriving DecidableEq, Repr

/-- The actuation state (10_state.md R32). -/
structure ActState where
  ledPhase : Bool
  ledCnt : Count
  deriving DecidableEq, Repr

/-- The output registers of the actuation stage, `comp_o` and `led_o` (10_state.md R33). -/
structure Lines where
  comp : Bool
  led : Bool
  deriving DecidableEq, Repr

/-- The output registers of the trace stage (10_state.md R34). -/
structure TracePorts where
  valid : Bool
  comp : Bool
  setMdeg : Word
  curMdeg : Word
  deriving DecidableEq, Repr

/-- The whole machine. `cfg` is constant for the life of an instance (10_state.md R38); `pins` and `hostPlan` are
the host's side; the rest is the state of R20. -/
structure State where
  /-- the configuration of this instance (R38) -/
  cfg : Cfg
  /-- the levels on the input ports in this step -/
  pins : Pins
  /-- the MODEL's own field: the levels in the steps that follow, first entry first; when it is empty the ports keep
  their levels (notes/assumptions/6.md) -/
  hostPlan : List Pins
  /-- the sample record (R21) -/
  record : SampleRecord
  /-- `mean[S]` (R24) -/
  meanS : MeanState
  /-- `mean[C]` (R24) -/
  meanC : MeanState
  /-- `plaus[S]` (R26) -/
  plausS : PlausState
  /-- `plaus[C]` (R26) -/
  plausC : PlausState
  /-- `ctrl.cooling` (R30): false is Idle, true is Cooling -/
  cooling : Bool
  /-- `act.led_phase`, `act.led_cnt` (R32) -/
  act : ActState
  /-- `comp_o`, `led_o` (R33) -/
  lines : Lines
  /-- the trace ports (R34) -/
  trace : TracePorts
  /-- `seq.stage`, the program counter (R35) -/
  stage : Code
  deriving DecidableEq, Repr

/-- Why the machine stops with a fault. NO constructor: "There is no run-time exception", no operation "faults,
traps, refuses or waits" (60_exceptions.md R230), so nothing raises one. Safe (notes/assumptions/12.md). -/
inductive Fault where
  deriving DecidableEq, Repr

/-- Why the model gives no next state. -/
inductive Refusal where
  /-- raised by an arm of `exec` whose instruction has no meaning yet (no arm has it now); safe -/
  | notModelled (mnemonic : String)
  /-- raised by construction, and by every operation, step and atomic tick of a state whose configuration no instance can have:
  "the system must refuse to start" (60_exceptions.md R231; 93_implementation_defined.md U1); safe -/
  | invalidConfig (reason : ConfigReason)
  /-- raised by the step when `seq.stage` holds a reserved code: stuck, "never a no-op" (30_encoding.md R86, U3);
  unreachable; safe -/
  | stuckStage (code : Code)
  /-- raised by MAP.C, and by the atomic tick, on a reading whose temperature does not fit 32 bits: "a model must not give MAP.C a wrapped or
  saturated value there" but "refuse the input" (43_temperature_mapping.md R161, U4); unreachable; safe -/
  | temperatureDoesNotFit (reading : Word)
  /-- raised by the atomic tick, and by no operation and no step, on a state in mid-tick: 47_sequencer_tick.md R216 gives
  it for "the state `s` before the tick (with `seq.stage` = IDLE)" only; safe (notes/assumptions/17.md) -/
  | tickInProgress (code : Code)
  deriving DecidableEq, Repr

/-- The levels the model starts from: no reset, no request, samples 0. DESIGN CHOICE (unsafe, notes/assumptions/5.md). -/
def Pins.quiet : Pins := { rst := false, tick := false, adcSet := 0, adcCur := 0 }

/-- A mean filter in state `none` with its register 0 (10_state.md R42). -/
def MeanState.unset : MeanState := { valid := false, last := 0 }

/-- A plausibility filter in state `none` with its registers 0 (10_state.md R42). -/
def PlausState.unset : PlausState := { valid := false, last := 0, fails := 0 }

/-- The instance of configuration `cfg` right after reset: every element at the value of 10_state.md R42. -/
def State.resetOf (cfg : Cfg) : State where
  cfg := cfg
  pins := Pins.quiet
  hostPlan := []
  record := { setRaw := 0, setClip := 0, curRaw := 0, curClip := 0, setMdeg := 0, curMdeg := 0, comp := false }
  meanS := MeanState.unset
  meanC := MeanState.unset
  plausS := PlausState.unset
  plausC := PlausState.unset
  cooling := false
  act := { ledPhase := false, ledCnt := 0 }
  lines := { comp := false, led := false }
  trace := { valid := false, comp := false, setMdeg := 0, curMdeg := 0 }
  stage := 0

/-- The machine right after reset (10_state.md R42), of the configuration of notes/assumptions/1.md. -/
def State.reset : State := State.resetOf Cfg.base

end Sys2Proof.Machine
end

