-- ==== Sys2Proof/Machine/Construct.lean ====
section
/-! DEFINITION. Construction (60_exceptions.md R231; 70_reset_and_hazards.md R264): the checks of a configuration in
the order they are reported, and the constructor that gives an instance or refuses. -/

namespace Sys2Proof.Machine

/-- The widths of 10_state.md R38, check 6 of 60_exceptions.md R231. `h` is 31 bits wide, the window sizes and the
fail tolerances 16, the max-jumps 32; the two indicator parameters are bounded by checks 4 and 5. -/
def rawFits (r : RawConfig) : Bool :=
  r.nS < 2 ^ 16 && r.nC < 2 ^ 16 && r.diffS < 2 ^ 32 && r.failsS < 2 ^ 16 && r.diffC < 2 ^ 32
    && r.failsC < 2 ^ 16 && r.h < 2 ^ 31

/-- The checks of 60_exceptions.md R231; "the first failing check gives the reason". -/
def rawCheck (r : RawConfig) : Option ConfigReason :=
  if r.nS < 1 then some (.windowNotPositive .S)
  else if r.nC < 1 then some (.windowNotPositive .C)
  else if r.h < 1 then some .halfBandNotPositive
  else if r.ledCntMod < 1 ∨ 65536 < r.ledCntMod then some .ledModulusOutOfRange
  else if r.ledIdleDiv < 1 ∨ r.ledCntMod < r.ledIdleDiv then some .ledDivisorOutOfRange
  else if rawFits r then none
  else some .parameterTooWide

/-- The code of a reason (60_exceptions.md R231). -/
def reasonCode : ConfigReason → Nat
  | .windowNotPositive .S => 1
  | .windowNotPositive .C => 2
  | .halfBandNotPositive => 3
  | .ledModulusOutOfRange => 4
  | .ledDivisorOutOfRange => 5
  | .parameterTooWide => 6

/-- The parameters an instance's configuration was made of: every field "read whole and unsigned at its declared
width" (30_encoding.md R85). -/
def cfgRaw (c : Cfg) : RawConfig where
  nS := c.nS.toNat
  nC := c.nC.toNat
  diffS := c.diffS.toNat
  failsS := c.failsS.toNat
  diffC := c.diffC.toNat
  failsC := c.failsC.toNat
  h := c.h.toNat
  ledIdleDiv := c.ledIdleDiv.toNat
  ledCntMod := c.ledCntMod.toNat
  filterOrder := c.filterOrder

/-- The check of an instance's configuration: `none` when it is one that construction accepts. -/
def cfgCheck (c : Cfg) : Option ConfigReason := rawCheck (cfgRaw c)

/-- Checked parameters at the widths of 10_state.md R38. -/
def rawCfg (r : RawConfig) : Cfg where
  nS := BitVec.ofInt 16 r.nS
  nC := BitVec.ofInt 16 r.nC
  diffS := BitVec.ofNat 32 r.diffS
  failsS := BitVec.ofNat 16 r.failsS
  diffC := BitVec.ofNat 32 r.diffC
  failsC := BitVec.ofNat 16 r.failsC
  h := BitVec.ofInt 31 r.h
  ledIdleDiv := BitVec.ofInt 17 r.ledIdleDiv
  ledCntMod := BitVec.ofInt 17 r.ledCntMod
  filterOrder := r.filterOrder

/-- The constructor (60_exceptions.md R231): an instance in its reset state, or `refuse InvalidConfig(reason)`. -/
def construct (r : RawConfig) : Host.Outcome State Fault Refusal :=
  match rawCheck r with
  | some reason => .refused (.invalidConfig reason)
  | none => .next (State.resetOf (rawCfg r))

end Sys2Proof.Machine
end

