-- ==== Sys2Proof/Machine/Operands.lean ====
section
/-! DEFINITION. The operands of the stage operations (30_encoding.md R84): the arithmetic primitives of
00_scope.md R9 and R11, the record fields and filter states by channel, the configuration fields "read whole and
unsigned" (R85), the ports read, and the one narrowing into a 32-bit register. -/

namespace Sys2Proof.Machine

/-- `CLIP_MIN` (00_scope.md R9). -/
def clipMin : Int := 0
/-- `CLIP_MAX` (00_scope.md R9). -/
def clipMax : Int := 4096
/-- The sensor scale (00_scope.md R9). -/
def sensorScale : Int := 100
/-- The sensor offset, subtracted (00_scope.md R9). -/
def sensorOffset : Int := 4000
/-- Milli-degrees per degree (00_scope.md R9). -/
def mdegPerDegree : Nat := 1000

/-- `tdiv(a, n)` for n ≥ 1: the quotient rounded toward zero (00_scope.md R11). -/
def tdiv (a n : Int) : Int := if 0 ≤ a then a / n else -((-a) / n)

/-- `abs(a)` (00_scope.md R11). -/
abbrev absInt (a : Int) : Nat := a.natAbs

/-- An integer stored in a 32-bit register. The rules show that the integers stored fit (00_scope.md R11). -/
def narrow (x : Int) : Word := BitVec.ofInt 32 x

/-- Whether an integer fits a 32-bit register (00_scope.md R8). -/
def fitsWord (x : Int) : Bool := -2 ^ 31 ≤ x && x ≤ 2 ^ 31 - 1

/-- `PortRead(tick_i)` (20_memory.md R64). -/
def readTick (s : State) : Bool := s.pins.tick
/-- `PortRead(adc_set_i)`, `PortRead(adc_cur_i)`: the value "at the moment of the read" (00_scope.md R12). -/
def readAdc (s : State) : Channel → Word
  | .S => s.pins.adcSet
  | .C => s.pins.adcCur

/-- `rec.set_raw`, `rec.cur_raw`. -/
def rawOf (s : State) : Channel → Word
  | .S => s.record.setRaw
  | .C => s.record.curRaw

/-- `rec.set_clip`, `rec.cur_clip`: clipped, and after conditioning filtered (10_state.md R23). -/
def clipOf (s : State) : Channel → Word
  | .S => s.record.setClip
  | .C => s.record.curClip

/-- `rec.set_mdeg`, `rec.cur_mdeg`. -/
def mdegOf (s : State) : Channel → Word
  | .S => s.record.setMdeg
  | .C => s.record.curMdeg

/-- `mean[c]`. -/
def meanOf (s : State) : Channel → MeanState
  | .S => s.meanS
  | .C => s.meanC

/-- `plaus[c]`. -/
def plausOf (s : State) : Channel → PlausState
  | .S => s.plausS
  | .C => s.plausC

/-- `if mean[c].valid = 1 then some(mean[c].last) else none` (40_mean_filter.md R105). -/
def meanLast (m : MeanState) : Option Int := if m.valid then some m.last.toInt else none

/-- `if plaus[c].valid = 1 then some(plaus[c].last) else none` (41_plausible_filter.md R122). -/
def plausLast (p : PlausState) : Option Int := if p.valid then some p.last.toInt else none

/-- `cfg.N_c`. -/
def windowOf (s : State) : Channel → Nat
  | .S => s.cfg.nS.toNat
  | .C => s.cfg.nC.toNat

/-- `cfg.DIFF_c`. -/
def diffOf (s : State) : Channel → Nat
  | .S => s.cfg.diffS.toNat
  | .C => s.cfg.diffC.toNat

/-- `cfg.FAILS_c`. -/
def failsOf (s : State) : Channel → Nat
  | .S => s.cfg.failsS.toNat
  | .C => s.cfg.failsC.toNat

/-- `cfg.H`. -/
def halfBandOf (s : State) : Int := s.cfg.h.toNat
/-- `cfg.LED_IDLE_DIV`. -/
def idleDivOf (s : State) : Nat := s.cfg.ledIdleDiv.toNat
/-- `cfg.LED_CNT_MOD`. -/
def cntModOf (s : State) : Nat := s.cfg.ledCntMod.toNat

end Sys2Proof.Machine
end

