-- ==== Sys2Proof/Machine/Flags.lean ====
section
/-! DEFINITION. The block has no condition codes (10_state.md R37); its computed one-bit values are the in-band test
of the plausibility filter, the control law, and the indicator's toggle; and the derived outputs `busy_o` and
`stage_o` (R36). -/

namespace Sys2Proof.Machine

/-- In band: `abs(x − value) ≤ diff`, exact, the boundary included (41_plausible_filter.md R121, R124, R125). -/
def inBand (diff : Nat) (x value : Int) : Bool := absInt (x - value) ≤ diff

/-- The control law (44_control_hysteresis.md R171), the cooling-on test first (R174), exact (R173). -/
def ctrlStep (h : Int) (cooling : Bool) (setpoint current : Int) : Bool :=
  if setpoint + h ≤ current then true
  else if current ≤ setpoint - h then false
  else cooling

/-- The duty divisor of a tick (45_actuation.md R186, R188). -/
def dutyDivisor (comp : Bool) (idleDiv : Nat) : Nat := if comp then 1 else idleDiv

/-- Whether the indicator toggles: "tested on the count before it is advanced" (45_actuation.md R186). -/
def ledToggles (cnt divisor : Nat) : Bool := cnt % divisor = 0

/-- The phase after ACT (45_actuation.md R186). -/
def ledNextPhase (cnt divisor : Nat) (phase : Bool) : Bool := if ledToggles cnt divisor then !phase else phase

/-- `busy_o`: 1 exactly when `seq.stage` is not IDLE (10_state.md R36). -/
def busyO (s : State) : Bool := s.stage != encode .idle

/-- `stage_o`: a copy of `seq.stage` (10_state.md R36). -/
def stageO (s : State) : Code := s.stage

end Sys2Proof.Machine
end

