-- ==== Sys2Proof/Machine/Ops.lean ====
section
/-! DEFINITION. The operations the meanings share: the writes of State, the refusal of a configuration without an
instance, the next-stage function (47_sequencer_tick.md R212) and the frame every stage operation has, reset
(70_reset_and_hazards.md R260), the fetch of `seq.stage`, and one cycle of the machine.

The block takes no exception and returns from none (60_exceptions.md R236 to R240), so there is no such operation;
`refuse InvalidConfig(reason)`, "the only exception-like outcome" (00_scope.md R12), is `onInstance`. -/

namespace Sys2Proof.Machine

/-! ### Writes -/

/-- `seq.stage <- c`. -/
def State.setStage (s : State) (c : Code) : State := { s with stage := c }
/-- The sample record replaced. -/
def State.setRecord (s : State) (r : SampleRecord) : State := { s with record := r }
/-- `mean[c].valid <- …, mean[c].last <- …`. -/
def State.setMean (s : State) (c : Channel) (m : MeanState) : State :=
  match c with
  | .S => { s with meanS := m }
  | .C => { s with meanC := m }
/-- `plaus[c].* <- …`. -/
def State.setPlaus (s : State) (c : Channel) (p : PlausState) : State :=
  match c with
  | .S => { s with plausS := p }
  | .C => { s with plausC := p }
/-- `ctrl.cooling <- b`. -/
def State.setCooling (s : State) (b : Bool) : State := { s with cooling := b }
/-- `act.led_phase <- …, act.led_cnt <- …`. -/
def State.setAct (s : State) (a : ActState) : State := { s with act := a }
/-- `PortWrite(comp_o, …), PortWrite(led_o, …)`. -/
def State.setLines (s : State) (l : Lines) : State := { s with lines := l }
/-- `PortWrite` of the four trace ports. -/
def State.setTrace (s : State) (t : TracePorts) : State := { s with trace := t }
/-- The host sets the levels on the input ports. -/
def State.setPins (s : State) (p : Pins) : State := { s with pins := p }
/-- The host plans the levels of the following steps. -/
def State.setPlan (s : State) (l : List Pins) : State := { s with hostPlan := l }

/-- `rec.<c>_raw <- w`. -/
def State.setRaw (s : State) (c : Channel) (w : Word) : State :=
  match c with
  | .S => s.setRecord { s.record with setRaw := w }
  | .C => s.setRecord { s.record with curRaw := w }
/-- `rec.<c>_clip <- w`. -/
def State.setClip (s : State) (c : Channel) (w : Word) : State :=
  match c with
  | .S => s.setRecord { s.record with setClip := w }
  | .C => s.setRecord { s.record with curClip := w }
/-- `rec.<c>_mdeg <- w`. -/
def State.setMdeg (s : State) (c : Channel) (w : Word) : State :=
  match c with
  | .S => s.setRecord { s.record with setMdeg := w }
  | .C => s.setRecord { s.record with curMdeg := w }
/-- `rec.comp <- b`. -/
def State.setComp (s : State) (b : Bool) : State := s.setRecord { s.record with comp := b }

/-! ### What every stage operation shares -/

/-- `k` for an instance; for a configuration that construction refuses there is no instance and no behaviour
(60_exceptions.md R231; 93_implementation_defined.md U1; notes/assumptions/2.md). -/
def onInstance (s : State) (k : Host.Outcome State Fault Refusal) : Host.Outcome State Fault Refusal :=
  match cfgCheck s.cfg with
  | some reason => .refused (.invalidConfig reason)
  | none => k

/-- `next_stage(op)` (47_sequencer_tick.md R212). `accepted` says whether IDLE accepts a tick (R213). -/
def nextStage (order : FilterOrder) (accepted : Bool) : Instr → Instr
  | .idle => if accepted then .acq else .idle
  | .acq => .clipS
  | .clipS => .clipC
  | .clipC => match order with
    | .plausThenMean => .plausS
    | .meanThenPlaus => .meanS
  | .plausS => match order with
    | .plausThenMean => .meanS
    | .meanThenPlaus => .meanC
  | .meanS => match order with
    | .plausThenMean => .plausC
    | .meanThenPlaus => .plausS
  | .plausC => match order with
    | .plausThenMean => .meanC
    | .meanThenPlaus => .mapS
  | .meanC => match order with
    | .plausThenMean => .mapS
    | .meanThenPlaus => .plausC
  | .mapS => .mapC
  | .mapC => .ctrl
  | .ctrl => .act
  | .act => .trace
  | .trace => .idle

/-- `seq.stage <- next_stage(op)`. -/
def State.advance (op : Instr) (s : State) : State :=
  s.setStage (encode (nextStage s.cfg.filterOrder (readTick s) op))

/-- A stage operation: its effect on the state, then `seq.stage <- next_stage(op)`. -/
def stageOp (op : Instr) (effect : State → State) (s : State) : Host.Outcome State Fault Refusal :=
  onInstance s (.next ((effect s).advance op))

/-! ### Reset -/

/-- A rising edge of `clk` with `rst` = 1: every element of 10_state.md takes the value of R42
(70_reset_and_hazards.md R260); the configuration is not touched (R261), nor is the host's side. -/
def applyReset (s : State) : State :=
  ((State.resetOf s.cfg).setPins s.pins).setPlan s.hostPlan

/-! ### The cycle -/

/-- `f` on a next state; a fault or a refusal as it is. -/
def mapNext (f : State → State) : Host.Outcome State Fault Refusal → Host.Outcome State Fault Refusal
  | .next s => .next (f s)
  | .fault r => .fault r
  | .refused r => .refused r

/-- `k` on a next state; a fault or a refusal as it is. -/
def andThen (o : Host.Outcome State Fault Refusal) (k : State → Host.Outcome State Fault Refusal) :
    Host.Outcome State Fault Refusal :=
  match o with
  | .next s => k s
  | .fault r => .fault r
  | .refused r => .refused r

/-- `trace_valid_o` pulses for one cycle: it is 0 again in the cycle after TRACE (46_trace.md R200; 10_state.md R37;
notes/assumptions/10.md). -/
def strobeFall (s : State) : State := s.setTrace { s.trace with valid := false }

/-- After a step the host's next levels reach the input ports; with no plan they keep their levels
(notes/assumptions/6.md). -/
def hostNext (s : State) : State :=
  match s.hostPlan with
  | [] => s
  | p :: rest => (s.setPins p).setPlan rest

/-- The operation `seq.stage` selects (10_state.md R35). -/
def fetch (s : State) : Except DecodeError Instr := decode s.stage

/-- One step of the machine, over a given meaning of the operations: reset if `rst` is 1, whatever `seq.stage` is
(70_reset_and_hazards.md R262); else the operation that `seq.stage` selects; stuck on a reserved code
(30_encoding.md R86). Then the host's next levels. -/
def cycle (ex : Instr → State → Host.Outcome State Fault Refusal) (s : State) : Host.Outcome State Fault Refusal :=
  onInstance s <|
    if s.pins.rst then .next (hostNext (applyReset s))
    else match fetch s with
      | .error _ => .refused (.stuckStage s.stage)
      | .ok i => mapNext hostNext (ex i (strobeFall s))

/-- `seq.stage` set to the 4-bit code `w`, and `rst` low, so that the next step runs that operation
(notes/assumptions/13.md). -/
def placeCode (s : State) (w : Nat) : State :=
  (s.setStage (BitVec.ofNat 4 w)).setPins { s.pins with rst := false }

end Sys2Proof.Machine
end

