-- ==== Sys2Proof/Machine/Acquisition.lean ====
section
/-! DEFINITION. ACQ, CLIP.S, CLIP.C (42_acquisition_clip.md). -/

namespace Sys2Proof.Machine

/-- `clip(value, min, max)`, pure saturation (42_acquisition_clip.md R141). -/
def clip (value lo hi : Int) : Int :=
  if value < lo then lo
  else if hi < value then hi
  else value

/-- Both raw fields take the sample ports, in one cycle, "taken as it is" (42_acquisition_clip.md R140). -/
def acquire (s : State) : State := (s.setRaw .S (readAdc s .S)).setRaw .C (readAdc s .C)

/-- `rec.<c>_clip <- clip(rec.<c>_raw, 0, 4096)` (42_acquisition_clip.md R142, R143). -/
def clipChannel (c : Channel) (s : State) : State :=
  s.setClip c (narrow (clip (rawOf s c).toInt clipMin clipMax))

/-- ACQ (42_acquisition_clip.md R140). -/
def execAcq (s : State) : Host.Outcome State Fault Refusal := stageOp .acq acquire s

/-- CLIP.S (42_acquisition_clip.md R142). -/
def execClipS (s : State) : Host.Outcome State Fault Refusal := stageOp .clipS (clipChannel .S) s

/-- CLIP.C (42_acquisition_clip.md R143). -/
def execClipC (s : State) : Host.Outcome State Fault Refusal := stageOp .clipC (clipChannel .C) s

end Sys2Proof.Machine
end

