-- ==== Sys2Proof/Machine/Actuation.lean ====
section
/-! DEFINITION. ACT (45_actuation.md). -/

namespace Sys2Proof.Machine

/-- The two lines, the indicator's phase and the tick counter (45_actuation.md R186). -/
def actuate (s : State) : State :=
  let d := dutyDivisor s.record.comp (idleDivOf s)
  let cnt := s.act.ledCnt.toNat
  let phase := ledNextPhase cnt d s.act.ledPhase
  (s.setLines { comp := s.record.comp, led := phase }).setAct
    { ledPhase := phase, ledCnt := BitVec.ofNat 16 ((cnt + 1) % cntModOf s) }

/-- ACT (45_actuation.md R186). -/
def execAct (s : State) : Host.Outcome State Fault Refusal := stageOp .act actuate s

end Sys2Proof.Machine
end

