-- ==== Sys2Proof/Machine/Control.lean ====
section
/-! DEFINITION. CTRL (44_control_hysteresis.md). -/

namespace Sys2Proof.Machine

/-- The control state and the command take the control law's result (44_control_hysteresis.md R171, R172). -/
def regulate (s : State) : State :=
  let next := ctrlStep (halfBandOf s) s.cooling (mdegOf s .S).toInt (mdegOf s .C).toInt
  (s.setCooling next).setComp next

/-- CTRL (44_control_hysteresis.md R172). -/
def execCtrl (s : State) : Host.Outcome State Fault Refusal := stageOp .ctrl regulate s

end Sys2Proof.Machine
end

