-- ==== Sys2Proof/Machine/Mapping.lean ====
section
/-! DEFINITION. MAP.S, MAP.C (43_temperature_mapping.md). -/

namespace Sys2Proof.Machine

/-- `map_set(x)`: three bands, "otherwise" for every other integer (43_temperature_mapping.md R155, R161). -/
def mapSet (x : Int) : Int :=
  if 0 ≤ x ∧ x ≤ 180 then 5000
  else if 181 ≤ x ∧ x ≤ 660 then 10000
  else 15000

/-- `map_cur(x) = x × 100 − 4000`, exact (43_temperature_mapping.md R157). -/
def mapCur (x : Int) : Int := x * sensorScale - sensorOffset

/-- `rec.set_mdeg <- map_set(rec.set_clip)` (43_temperature_mapping.md R156). -/
def mapSetpoint (s : State) : State := s.setMdeg .S (narrow (mapSet (clipOf s .S).toInt))

/-- `rec.cur_mdeg <- map_cur(rec.cur_clip)` (43_temperature_mapping.md R158). -/
def mapSensor (s : State) : State := s.setMdeg .C (narrow (mapCur (clipOf s .C).toInt))

/-- MAP.S (43_temperature_mapping.md R156). -/
def execMapS (s : State) : Host.Outcome State Fault Refusal := stageOp .mapS mapSetpoint s

/-- MAP.C (43_temperature_mapping.md R158). A reading whose temperature does not fit 32 bits is refused (R161;
93_implementation_defined.md U4; notes/assumptions/4.md); "inside the block the case is unreachable". -/
def execMapC (s : State) : Host.Outcome State Fault Refusal :=
  if fitsWord (mapCur (clipOf s .C).toInt) then stageOp .mapC mapSensor s
  else onInstance s (.refused (.temperatureDoesNotFit (clipOf s .C)))

end Sys2Proof.Machine
end

