-- ==== Sys2Proof/Machine/MeanFilter.lean ====
section
/-! DEFINITION. MEAN.S, MEAN.C (40_mean_filter.md). -/

namespace Sys2Proof.Machine

/-- `mean_update(N, st, value)` (40_mean_filter.md R101): the new state and the output. The sum is exact (R103). -/
def meanUpdate (n : Nat) (st : Option Int) (value : Int) : Option Int × Int :=
  match st with
  | none => (some value, value)
  | some last =>
    let acc := last * ((n : Int) - 1) + value
    let out := tdiv acc n
    (some out, out)

/-- The update on channel `c`, in place (40_mean_filter.md R105, R106; 10_state.md R23). -/
def meanChannel (c : Channel) (s : State) : State :=
  let r := meanUpdate (windowOf s c) (meanLast (meanOf s c)) (clipOf s c).toInt
  (s.setMean c { valid := true, last := narrow r.2 }).setClip c (narrow r.2)

/-- MEAN.S (40_mean_filter.md R105). -/
def execMeanS (s : State) : Host.Outcome State Fault Refusal := stageOp .meanS (meanChannel .S) s

/-- MEAN.C (40_mean_filter.md R106). -/
def execMeanC (s : State) : Host.Outcome State Fault Refusal := stageOp .meanC (meanChannel .C) s

end Sys2Proof.Machine
end

