-- ==== Sys2Proof/Machine/PlausibleFilter.lean ====
section
/-! DEFINITION. PLAUS.S, PLAUS.C (41_plausible_filter.md). -/

namespace Sys2Proof.Machine

/-- `plaus_update(diff, num_fails, (last, fails), value)` (41_plausible_filter.md R121): the new state and the
output. The incremented count is transient (10_state.md R28): stored only when it is not above `num_fails`. -/
def plausUpdate (diff numFails : Nat) (st : Option Int × Nat) (value : Int) : (Option Int × Nat) × Int :=
  match st with
  | (none, fails) => ((some value, fails), value)
  | (some x, fails) =>
    if inBand diff x value then ((some value, 0), value)
    else if numFails < fails + 1 then ((some value, 0), value)
    else ((some x, fails + 1), x)

/-- The update on channel `c`, in place (41_plausible_filter.md R122, R123; 10_state.md R23). -/
def plausChannel (c : Channel) (s : State) : State :=
  let p := plausOf s c
  let r := plausUpdate (diffOf s c) (failsOf s c) (plausLast p, p.fails.toNat) (clipOf s c).toInt
  (s.setPlaus c { valid := true, last := narrow (r.1.1.getD 0), fails := BitVec.ofNat 16 r.1.2 }).setClip c (narrow r.2)

/-- PLAUS.S (41_plausible_filter.md R122). -/
def execPlausS (s : State) : Host.Outcome State Fault Refusal := stageOp .plausS (plausChannel .S) s

/-- PLAUS.C (41_plausible_filter.md R123). -/
def execPlausC (s : State) : Host.Outcome State Fault Refusal := stageOp .plausC (plausChannel .C) s

end Sys2Proof.Machine
end

