-- ==== Sys2Proof/Machine/Sequencer.lean ====
section
/-! DEFINITION. IDLE (47_sequencer_tick.md R213). -/

namespace Sys2Proof.Machine

/-- IDLE: accept the tick request, or wait. It "changes no state other than `seq.stage`" (47_sequencer_tick.md R213). -/
def execIdle (s : State) : Host.Outcome State Fault Refusal := stageOp .idle id s

end Sys2Proof.Machine
end

