-- ==== Sys2Proof/Machine/Trace.lean ====
section
/-! DEFINITION. TRACE (46_trace.md), and the parts of a temperature that a host makes of a trace port (R202). -/

namespace Sys2Proof.Machine

/-- The three value ports and the strobe (46_trace.md R200). -/
def present (s : State) : State :=
  s.setTrace { valid := true, comp := s.record.comp, setMdeg := s.record.setMdeg, curMdeg := s.record.curMdeg }

/-- TRACE (46_trace.md R200). -/
def execTrace (s : State) : Host.Outcome State Fault Refusal := stageOp .trace present s

/-- `sign(t)`: whether it is negative (46_trace.md R202). "The block does not compute these parts." -/
def mdegNegative (t : Int) : Bool := t < 0
/-- `whole(t)`: whole degrees (46_trace.md R202). -/
def mdegWhole (t : Int) : Nat := absInt t / mdegPerDegree
/-- `frac(t)`: thousandths of a degree (46_trace.md R202). -/
def mdegFrac (t : Int) : Nat := absInt t % mdegPerDegree

end Sys2Proof.Machine
end

