-- ==== Sys2Proof/Machine/Dispatch.lean ====
section
/-! DEFINITION. The meaning of each stage operation (30_encoding.md R81), one arm each. -/

namespace Sys2Proof.Machine

/-- The meaning of a stage operation. -/
def exec (i : Instr) (s : State) : Host.Outcome State Fault Refusal :=
  match i with
  | .idle => Sys2Proof.Machine.execIdle s
  | .acq => Sys2Proof.Machine.execAcq s
  | .clipS => Sys2Proof.Machine.execClipS s
  | .clipC => Sys2Proof.Machine.execClipC s
  | .plausS => Sys2Proof.Machine.execPlausS s
  | .plausC => Sys2Proof.Machine.execPlausC s
  | .meanS => Sys2Proof.Machine.execMeanS s
  | .meanC => Sys2Proof.Machine.execMeanC s
  | .mapS => Sys2Proof.Machine.execMapS s
  | .mapC => Sys2Proof.Machine.execMapC s
  | .ctrl => Sys2Proof.Machine.execCtrl s
  | .act => Sys2Proof.Machine.execAct s
  | .trace => Sys2Proof.Machine.execTrace s

end Sys2Proof.Machine
end

