-- ==== Sys2Proof/Machine/Step.lean ====
section
/-! DEFINITION. One step of the machine, and the host's way to choose the operation it runs. -/

namespace Sys2Proof.Machine

/-- One step: reset, or the stage operation that `seq.stage` selects (47_sequencer_tick.md R210 to R215). -/
def step (s : State) : Host.Outcome State Fault Refusal := cycle exec s

/-- `s` with the stage code `w` where the step fetches it, and reset not asserted (notes/assumptions/13.md). -/
def State.withFetchWord (s : State) (_nbits w : Nat) : State := placeCode s w

end Sys2Proof.Machine
end

