-- ==== Sys2Proof/Machine/Tick.lean ====
section
/-! DEFINITION. The fixed sequence of a tick (47_sequencer_tick.md R211), the tick as one atomic step (R216), and
what a test program's lines mean at the input ports (30_encoding.md R88 to R90). -/

namespace Sys2Proof.Machine

/-- The twelve operations of one tick, in order (47_sequencer_tick.md R211). -/
def tickSequence : FilterOrder → List Instr
  | .plausThenMean =>
    [.acq, .clipS, .clipC, .plausS, .meanS, .plausC, .meanC, .mapS, .mapC, .ctrl, .act, .trace]
  | .meanThenPlaus =>
    [.acq, .clipS, .clipC, .meanS, .plausS, .meanC, .plausC, .mapS, .mapC, .ctrl, .act, .trace]

/-- The conditioning of a clipped reading on channel `c` (47_sequencer_tick.md R216): the plausibility filter's new
state, the mean filter's new state, and the filtered reading. -/
def condition (s : State) (c : Channel) (x : Int) : (Option Int × Nat) × Option Int × Int :=
  let plaus := (plausLast (plausOf s c), (plausOf s c).fails.toNat)
  let mean := meanLast (meanOf s c)
  match s.cfg.filterOrder with
  | .plausThenMean =>
    let p := plausUpdate (diffOf s c) (failsOf s c) plaus x
    let m := meanUpdate (windowOf s c) mean p.2
    (p.1, m.1, m.2)
  | .meanThenPlaus =>
    let m := meanUpdate (windowOf s c) mean x
    let p := plausUpdate (diffOf s c) (failsOf s c) plaus m.2
    (p.1, m.1, p.2)

/-- A mean filter's registers for a state that holds a value. -/
def meanRegs (m : Option Int) : MeanState := { valid := true, last := narrow (m.getD 0) }

/-- A plausibility filter's registers for a state that holds a value. -/
def plausRegs (p : Option Int × Nat) : PlausState :=
  { valid := true, last := narrow (p.1.getD 0), fails := BitVec.ofNat 16 p.2 }

/-- The state after a tick (47_sequencer_tick.md R216); the trace strobe has pulsed. The body of `tick`, which alone calls
it, and only where R216 gives a tick: what it computes elsewhere (a wrapped temperature, a division by a window of 0) is
no state of the machine and reaches none (notes/assumptions/17.md). -/
def afterTick (s : State) (x : Stimulus) : State :=
  let fs := condition s .S (clip x.set.toInt clipMin clipMax)
  let fc := condition s .C (clip x.cur.toInt clipMin clipMax)
  let setMdeg := mapSet fs.2.2
  let curMdeg := mapCur fc.2.2
  let cooling := ctrlStep (halfBandOf s) s.cooling setMdeg curMdeg
  let d := dutyDivisor cooling (idleDivOf s)
  let phase := ledNextPhase s.act.ledCnt.toNat d s.act.ledPhase
  { s with
    record := { setRaw := x.set, setClip := narrow fs.2.2, curRaw := x.cur, curClip := narrow fc.2.2,
                setMdeg := narrow setMdeg, curMdeg := narrow curMdeg, comp := cooling }
    plausS := plausRegs fs.1
    meanS := meanRegs fs.2.1
    plausC := plausRegs fc.1
    meanC := meanRegs fc.2.1
    cooling := cooling
    act := { ledPhase := phase, ledCnt := BitVec.ofNat 16 ((s.act.ledCnt.toNat + 1) % cntModOf s) }
    lines := { comp := cooling, led := phase }
    trace := { valid := true, comp := cooling, setMdeg := narrow setMdeg, curMdeg := narrow curMdeg }
    stage := encode .idle }

/-- `tick(cfg, s, a_set, a_cur)`: the whole tick as one function of the state and the two samples
(47_sequencer_tick.md R216), for "the state `s` before the tick (with `seq.stage` = IDLE)". It refuses what R216 does not
give a tick (notes/assumptions/17.md): a configuration without an instance (60_exceptions.md R231, U1), a state in
mid-tick, and a filtered sensor reading whose temperature does not fit 32 bits (43_temperature_mapping.md R161, U4). -/
def tick (s : State) (x : Stimulus) : Host.Outcome State Fault Refusal :=
  let reading := (condition s .C (clip x.cur.toInt clipMin clipMax)).2.2
  onInstance s <|
    if s.stage = encode .idle then
      if fitsWord (mapCur reading) then .next (afterTick s x)
      else .refused (.temperatureDoesNotFit (narrow reading))
    else .refused (.tickInProgress s.stage)

/-- A line of a test program as one atomic step: a reset (70_reset_and_hazards.md R260) or a tick (R216). -/
def actionStep (s : State) : Action → Host.Outcome State Fault Refusal
  | .reset => onInstance s (.next (applyReset s))
  | .tick x => tick s x

/-- A list of lines, each as one atomic step. -/
def actionSteps : List Action → State → Host.Outcome State Fault Refusal
  | [], s => .next s
  | a :: l, s => andThen (actionStep s a) (actionSteps l)

/-- The levels of the ports while a sample pair is held, with or without a request. -/
def sampleLevels (request : Bool) (x : Stimulus) : Pins :=
  { rst := false, tick := request, adcSet := x.set, adcCur := x.cur }

/-- The levels of the thirteen steps of `TICK set=…, cur=…` (30_encoding.md R89): `tick_i` for one cycle in IDLE,
the samples held, and the twelve operations (notes/assumptions/14.md). -/
def tickLevels (x : Stimulus) : List Pins := sampleLevels true x :: List.replicate 12 (sampleLevels false x)

/-- The levels of the one step of `RESET` (30_encoding.md R90). -/
def resetLevels : List Pins := [{ Pins.quiet with rst := true }]

/-- The levels of a line of a test program (30_encoding.md R90). -/
def actionLevels : Action → List Pins
  | .reset => resetLevels
  | .tick x => tickLevels x

/-- The levels of a whole test program, one entry a step. -/
def programLevels (l : List Action) : List Pins := l.flatMap actionLevels

/-- The host plays a list of levels, from the next step on. -/
def playLevels (s : State) : List Pins → State
  | [] => s
  | p :: rest => (s.setPins p).setPlan rest

/-- The lines of a test program up to and with its last TICK: "the run ends when the block is in IDLE after the TRACE of
the program's last TICK" (47_sequencer_tick.md R221). With no TICK there is none: the run ends at once, in the constructed
state, where the RESET lines would leave it too (DESIGN CHOICE, notes/assumptions/18.md). -/
def throughLastTick : List Action → List Action
  | [] => []
  | .tick x :: l => .tick x :: throughLastTick l
  | .reset :: l =>
    match throughLastTick l with
    | [] => []
    | a :: m => .reset :: a :: m

/-- The levels of the steps of a test program's run, to its end (47_sequencer_tick.md R221). -/
def runLevels (p : Program) : List Pins := programLevels (throughLastTick p.actions)

/-- A test program made ready to run (30_encoding.md R90): `CONFIG` constructs the instance (a refused configuration
gives none, 60_exceptions.md R231), and the host plays the other lines, up to the end of the run. The program has run
after as many steps as `runLevels` has entries (47_sequencer_tick.md R221). -/
def loadProgram (p : Program) : Host.Outcome State Fault Refusal :=
  mapNext (fun s => playLevels s (runLevels p)) (construct p.config)

end Sys2Proof.Machine
end

