-- ==== Sys2Proof/Safety.lean ====
section
/-! DEFINITION. The terms that statements about runs are made in: a run of the machine, the ranges and relations
that the spec gives the state elements between operations, collected in `Inv`, and agreement of two states but for
the indicator. -/

namespace Sys2Proof.Machine

/-- `k` steps of the machine. -/
abbrev run (k : Nat) (s : State) : Host.Outcome State Fault Refusal := Host.Core.run Sys2Proof.core k s

/-- A clipped or filtered reading is in 0 to 4096 (40_mean_filter.md R111; 41_plausible_filter.md R127). -/
abbrev readingInRange (w : Word) : Prop := 0 ≤ w.toInt ∧ w.toInt ≤ 4096

/-- A mean filter's registers: in range, and 0 while unset (10_state.md R24, R25; 00_scope.md R13). -/
abbrev MeanOk (m : MeanState) : Prop := readingInRange m.last ∧ (m.valid = false → m.last = 0)

/-- A plausibility filter's registers: in range, 0 while unset, the count never above the tolerance
(10_state.md R26, R27; 00_scope.md R13). -/
abbrev PlausOk (limit : Nat) (p : PlausState) : Prop :=
  readingInRange p.last ∧ (p.valid = false → p.last = 0 ∧ p.fails = 0) ∧ p.fails.toNat ≤ limit

/-- What holds of the machine before and after every step. -/
structure Inv (s : State) : Prop where
  /-- the configuration is one that construction accepts (60_exceptions.md R231) -/
  configured : cfgCheck s.cfg = none
  /-- `seq.stage` "takes only the thirteen assigned codes" (10_state.md R35; 30_encoding.md R86) -/
  stageAssigned : codeAssigned s.stage = true
  /-- 40_mean_filter.md R111, 41_plausible_filter.md R127 -/
  setClip : readingInRange s.record.setClip
  /-- 40_mean_filter.md R111, 41_plausible_filter.md R127 -/
  curClip : readingInRange s.record.curClip
  /-- 43_temperature_mapping.md R160, or the reset value, and that only until the first MAP.S has run -/
  setMdeg : (s.record.setMdeg = 0 ∧ s.stage.toNat ≤ 8) ∨
    s.record.setMdeg = 5000 ∨ s.record.setMdeg = 10000 ∨ s.record.setMdeg = 15000
  /-- 43_temperature_mapping.md R160 -/
  curMdeg : -4000 ≤ s.record.curMdeg.toInt ∧ s.record.curMdeg.toInt ≤ 405600 ∧ s.record.curMdeg.toInt % 100 = 0
  /-- 10_state.md R25 -/
  meanS : MeanOk s.meanS
  /-- 10_state.md R25 -/
  meanC : MeanOk s.meanC
  /-- 10_state.md R27 -/
  plausS : PlausOk (failsOf s .S) s.plausS
  /-- 10_state.md R27 -/
  plausC : PlausOk (failsOf s .C) s.plausC
  /-- `rec.comp` is a copy of `ctrl.cooling` (10_state.md R31) -/
  command : s.record.comp = s.cooling
  /-- `act.led_cnt` is "always in 0 to `cfg.LED_CNT_MOD` − 1" (10_state.md R32) -/
  count : s.act.ledCnt.toNat < cntModOf s
  /-- `led_o` is driven with the phase (45_actuation.md R186) -/
  led : s.lines.led = s.act.ledPhase
  /-- `comp_o` mirrors the control state, but between CTRL and ACT (45_actuation.md R187) -/
  line : s.stage ≠ encode .act → s.lines.comp = s.cooling
  /-- the trace shows the command that `comp_o` carries, but between ACT and TRACE (20_memory.md R74) -/
  traceComp : s.stage ≠ encode .trace → s.trace.comp = s.lines.comp
  /-- the trace ports hold the temperatures of the last tick until MAP.S writes a new one (46_trace.md R200) -/
  traceSet : s.stage.toNat ≤ 8 → s.trace.setMdeg = s.record.setMdeg
  /-- the same until MAP.C -/
  traceCur : s.stage.toNat ≤ 9 → s.trace.curMdeg = s.record.curMdeg
  /-- the strobe is 1 only right after TRACE (46_trace.md R200) -/
  strobe : s.trace.valid = true → s.stage = encode .idle

/-- `t` is `s` but for the indicator's phase, its counter and its line (45_actuation.md R191). -/
abbrev SameButIndicator (s t : State) : Prop :=
  t = { s with act := t.act, lines := { s.lines with led := t.lines.led } }

/-- `t` is `s` but for what the host puts on the input ports, now and later. -/
abbrev SameButHost (s t : State) : Prop := t = { s with pins := t.pins, hostPlan := t.hostPlan }

/-- The run of a test program, to its end: the end state is "the whole state" and "the values held on the output ports"
(47_sequencer_tick.md R221). -/
def runProgram (p : Program) : Host.Outcome State Fault Refusal :=
  andThen (loadProgram p) (run (runLevels p).length)

/-- A list of ticks, each as one atomic step (47_sequencer_tick.md R216). -/
abbrev ticks (xs : List Stimulus) (s : State) : Host.Outcome State Fault Refusal :=
  actionSteps (xs.map Action.tick) s

/-- `u 0` is the state before a list of ticks, and `u k` the state after its first `k` (47_sequencer_tick.md R216). -/
def TickRun (xs : List Stimulus) (u : Nat → State) : Prop :=
  ∀ (k : Nat) (h : k < xs.length), tick (u k) xs[k] = .next (u (k + 1))

/-- The outputs of a mean filter fed a list of inputs (40_mean_filter.md R101). -/
def meanOutputs (n : Nat) : Option Int → List Int → List Int
  | _, [] => []
  | st, x :: xs => (meanUpdate n st x).2 :: meanOutputs n (meanUpdate n st x).1 xs

/-- The output of a mean filter in state `some(last)` after `k` updates with the input `v` (40_mean_filter.md R109). -/
def meanAfter (n : Nat) (v : Int) : Nat → Int → Int
  | 0, last => last
  | k + 1, last => meanAfter n v k (meanUpdate n (some last) v).2

/-- The outputs and the last state of a plausibility filter fed a list of inputs (41_plausible_filter.md R121). -/
def plausOutputs (diff numFails : Nat) : Option Int × Nat → List Int → List Int × (Option Int × Nat)
  | st, [] => ([], st)
  | st, x :: xs =>
    let r := plausUpdate diff numFails st x
    let rest := plausOutputs diff numFails r.1 xs
    (r.2 :: rest.1, rest.2)

end Sys2Proof.Machine
end

