-- ==== Sys2Proof/Certificates/Slice0/Obligations.lean ====
section
/-! DEFINITION. What is claimed of the machine, each as a proposition; nothing is proved here. Every statement about
an operation gives the whole next state: `{ s with … }` names every element the operation writes, and all others
are as before. The block has no memory (10_state.md R40), so no frame speaks of one. -/

open Sys2Proof
open Sys2Proof.Machine

/-! ### Reset and construction -/

/-- 10_state.md R42, 70_reset_and_hazards.md R260, R261, R262: with `rst` = 1, whatever `seq.stage` holds and whether
or not a tick is requested, the step leaves every element at its reset value and the configuration as it is. -/
def Obligations.ResetPutsEveryElementAtItsResetValue : Prop :=
  ∀ s : State, cfgCheck s.cfg = none → s.pins.rst = true →
    ∃ t, step s = .next t ∧ t.cfg = s.cfg ∧
      t.record.setRaw = 0 ∧ t.record.setClip = 0 ∧ t.record.curRaw = 0 ∧ t.record.curClip = 0 ∧
      t.record.setMdeg = 0 ∧ t.record.curMdeg = 0 ∧ t.record.comp = false ∧
      t.meanS.valid = false ∧ t.meanS.last = 0 ∧ t.meanC.valid = false ∧ t.meanC.last = 0 ∧
      t.plausS.valid = false ∧ t.plausS.last = 0 ∧ t.plausS.fails = 0 ∧
      t.plausC.valid = false ∧ t.plausC.last = 0 ∧ t.plausC.fails = 0 ∧
      t.cooling = false ∧ t.act.ledPhase = false ∧ t.act.ledCnt = 0 ∧
      t.lines.comp = false ∧ t.lines.led = false ∧
      t.trace.valid = false ∧ t.trace.comp = false ∧ t.trace.setMdeg = 0 ∧ t.trace.curMdeg = 0 ∧
      t.stage = 0b0000 ∧ busyO t = false

/-- 60_exceptions.md R231: the six checks in their order, the first failing one giving the reason and its code; a set
of parameters that passes all gives an instance with exactly those parameters. -/
def Obligations.ConstructionReportsTheFirstFailingCheck : Prop :=
  ∀ r : RawConfig,
    (r.nS < 1 → construct r = .refused (.invalidConfig (.windowNotPositive .S))) ∧
    (1 ≤ r.nS → r.nC < 1 → construct r = .refused (.invalidConfig (.windowNotPositive .C))) ∧
    (1 ≤ r.nS → 1 ≤ r.nC → r.h < 1 → construct r = .refused (.invalidConfig .halfBandNotPositive)) ∧
    (1 ≤ r.nS → 1 ≤ r.nC → 1 ≤ r.h → ¬ (1 ≤ r.ledCntMod ∧ r.ledCntMod ≤ 65536) →
      construct r = .refused (.invalidConfig .ledModulusOutOfRange)) ∧
    (1 ≤ r.nS → 1 ≤ r.nC → 1 ≤ r.h → 1 ≤ r.ledCntMod → r.ledCntMod ≤ 65536 →
      ¬ (1 ≤ r.ledIdleDiv ∧ r.ledIdleDiv ≤ r.ledCntMod) →
      construct r = .refused (.invalidConfig .ledDivisorOutOfRange)) ∧
    (1 ≤ r.nS → 1 ≤ r.nC → 1 ≤ r.h → 1 ≤ r.ledCntMod → r.ledCntMod ≤ 65536 →
      1 ≤ r.ledIdleDiv → r.ledIdleDiv ≤ r.ledCntMod →
      ¬ (r.nS ≤ 65535 ∧ r.nC ≤ 65535 ∧ r.diffS ≤ 4294967295 ∧ r.failsS ≤ 65535 ∧ r.diffC ≤ 4294967295 ∧
        r.failsC ≤ 65535 ∧ r.h ≤ 2147483647) →
      construct r = .refused (.invalidConfig .parameterTooWide)) ∧
    (1 ≤ r.nS → 1 ≤ r.nC → 1 ≤ r.h → 1 ≤ r.ledCntMod → r.ledCntMod ≤ 65536 →
      1 ≤ r.ledIdleDiv → r.ledIdleDiv ≤ r.ledCntMod →
      r.nS ≤ 65535 → r.nC ≤ 65535 → r.diffS ≤ 4294967295 → r.failsS ≤ 65535 → r.diffC ≤ 4294967295 →
      r.failsC ≤ 65535 → r.h ≤ 2147483647 →
      ∃ s, construct r = .next s ∧ cfgRaw s.cfg = r) ∧
    [reasonCode (.windowNotPositive .S), reasonCode (.windowNotPositive .C), reasonCode .halfBandNotPositive,
      reasonCode .ledModulusOutOfRange, reasonCode .ledDivisorOutOfRange, reasonCode .parameterTooWide]
      = [1, 2, 3, 4, 5, 6]

/-- THE MODEL'S CHOICE of how 60_exceptions.md R231 and 93_implementation_defined.md U1 show in a state
(notes/assumptions/2.md): a configuration that construction refuses has no operation and no step. -/
def Obligations.InvalidConfigurationHasNoBehaviour : Prop :=
  ∀ (s : State) (r : ConfigReason), cfgCheck s.cfg = some r →
    (∀ i, exec i s = .refused (.invalidConfig r)) ∧ step s = .refused (.invalidConfig r)

/-! ### Stage codes, the step, the sequence -/

/-- 30_encoding.md R83: the sixteen rows of the stage-code map, read as `unit`, `sel` and operation. -/
def Obligations.StageCodesDecodeAsTabulated : Prop :=
  decode 0b0000 = .ok .idle ∧ decode 0b0001 = .ok .acq ∧ decode 0b0010 = .ok .clipS ∧ decode 0b0011 = .ok .clipC ∧
  decode 0b0100 = .ok .plausS ∧ decode 0b0101 = .ok .plausC ∧ decode 0b0110 = .ok .meanS ∧
  decode 0b0111 = .ok .meanC ∧ decode 0b1000 = .ok .mapS ∧ decode 0b1001 = .ok .mapC ∧ decode 0b1010 = .ok .ctrl ∧
  decode 0b1011 = .ok .act ∧ decode 0b1100 = .ok .trace ∧ decode 0b1101 = .error (.reservedCode 0b1101) ∧
  decode 0b1110 = .error (.reservedCode 0b1110) ∧ decode 0b1111 = .error (.reservedCode 0b1111) ∧
  ∀ c : Code, codeUnit c ++ codeSel c = c

/-- 30_encoding.md R82, R83: decode and encode agree on every operation, and every code that decodes is the code of
its operation. -/
def Obligations.DecodeUndoesEncode : Prop :=
  (∀ i : Instr, decode (encode i) = .ok i) ∧ ∀ (c : Code) (i : Instr), decode c = .ok i → encode i = c

/-- 30_encoding.md R88: `cur` in bits [63:32], `set` in bits [31:0], and no bit of a stimulus word or of a sample is
lost. -/
def Obligations.StimulusWordHoldsTheSamples : Prop :=
  (∀ x : Stimulus, (encodeStimulus x).extractLsb' 32 32 = x.cur ∧ (encodeStimulus x).extractLsb' 0 32 = x.set) ∧
  (∀ x : Stimulus, decodeStimulus (encodeStimulus x) = x) ∧
  (∀ w : BitVec 64, encodeStimulus (decodeStimulus w) = w) ∧
  encodeStimulus { set := 400, cur := 150 } = 0x0000009600000190#64 ∧
  encodeStimulus { set := BitVec.ofInt 32 (-1), cur := 5000 } = 0x00001388FFFFFFFF#64

/-- A step runs the operation whose code `seq.stage` holds (10_state.md R35). Around it: the trace strobe falls first
(46_trace.md R200), and afterwards the host's next levels reach the input ports (the model's, notes/assumptions/6.md).
-/
def Obligations.StepRunsTheSelectedOperation : Prop :=
  ∀ (s : State) (i : Instr), cfgCheck s.cfg = none → s.pins.rst = false → decode s.stage = .ok i →
    i.wellFormed = true →
    step s = mapNext hostNext (exec i { s with trace := { s.trace with valid := false } }) ∧
    (∀ u : State, u.hostPlan = [] → hostNext u = u) ∧
    ∀ (u : State) (p : Pins) (l : List Pins), u.hostPlan = p :: l → hostNext u = { u with pins := p, hostPlan := l }

/-- 30_encoding.md R86, 93_implementation_defined.md U3: a reserved code has no step. -/
def Obligations.ReservedCodesAreStuck : Prop :=
  ∀ s : State, cfgCheck s.cfg = none → s.pins.rst = false →
    s.stage = 0b1101 ∨ s.stage = 0b1110 ∨ s.stage = 0b1111 → step s = .refused (.stuckStage s.stage)

/-- 47_sequencer_tick.md R212: the next-stage table, both columns, as codes. -/
def Obligations.NextStageFollowsTheTable : Prop :=
  ∀ (i : Instr) (s t : State), exec i s = .next t →
    (s.cfg.filterOrder = .plausThenMean → (i, t.stage) ∈
      [(Instr.idle, if s.pins.tick then 0b0001#4 else 0b0000#4), (.acq, 0b0010#4), (.clipS, 0b0011#4),
       (.clipC, 0b0100#4), (.plausS, 0b0110#4), (.meanS, 0b0101#4), (.plausC, 0b0111#4), (.meanC, 0b1000#4),
       (.mapS, 0b1001#4), (.mapC, 0b1010#4), (.ctrl, 0b1011#4), (.act, 0b1100#4), (.trace, 0b0000#4)]) ∧
    (s.cfg.filterOrder = .meanThenPlaus → (i, t.stage) ∈
      [(Instr.idle, if s.pins.tick then 0b0001#4 else 0b0000#4), (.acq, 0b0010#4), (.clipS, 0b0011#4),
       (.clipC, 0b0110#4), (.plausS, 0b0111#4), (.meanS, 0b0100#4), (.plausC, 0b1000#4), (.meanC, 0b0101#4),
       (.mapS, 0b1001#4), (.mapC, 0b1010#4), (.ctrl, 0b1011#4), (.act, 0b1100#4), (.trace, 0b0000#4)])

/-- 47_sequencer_tick.md R211, R215: an accepted tick runs the twelve operations of the table, one a step, whatever
the host does on the other ports, and is back in IDLE after the thirteenth step. -/
def Obligations.AcceptedTickRunsTheTwelveOperationsInOrder : Prop :=
  ∀ s : State, Inv s → s.stage = 0b0000 → s.pins.rst = false → s.pins.tick = true →
    (∀ p ∈ s.hostPlan.take 12, p.rst = false) →
    ∀ k ≤ 12, ∃ t, run (k + 1) s = .next t ∧
      t.stage = ((tickSequence s.cfg.filterOrder ++ [Instr.idle]).map encode)[k]?.getD 0b1111

/-! ### The operations -/

/-- 47_sequencer_tick.md R213: IDLE accepts the request or waits, and changes nothing but `seq.stage`. -/
def Obligations.IdleAcceptsARequestOrWaits : Prop :=
  ∀ s : State, cfgCheck s.cfg = none →
    (s.pins.tick = true → exec .idle s = .next { s with stage := 0b0001 }) ∧
    (s.pins.tick = false → exec .idle s = .next { s with stage := 0b0000 })

/-- 42_acquisition_clip.md R140: ACQ takes both ports as they are, at once. -/
def Obligations.AcqReadsBothSamplePorts : Prop :=
  ∀ s : State, cfgCheck s.cfg = none →
    exec .acq s = .next { s with
      record := { s.record with setRaw := s.pins.adcSet, curRaw := s.pins.adcCur }
      stage := 0b0010 }

/-- 42_acquisition_clip.md R141, R142, R143: CLIP.S and CLIP.C saturate their own channel to 0 to 4096. -/
def Obligations.ClipSaturatesItsChannel : Prop :=
  ∀ s : State, cfgCheck s.cfg = none →
    (∃ w : Word, exec .clipS s = .next { s with record := { s.record with setClip := w }, stage := 0b0011 } ∧
      (s.record.setRaw.toInt < 0 → w.toInt = 0) ∧
      (4096 < s.record.setRaw.toInt → w.toInt = 4096) ∧
      (0 ≤ s.record.setRaw.toInt → s.record.setRaw.toInt ≤ 4096 → w = s.record.setRaw)) ∧
    (∃ w : Word, exec .clipC s = .next { s with
        record := { s.record with curClip := w }
        stage := match s.cfg.filterOrder with | .plausThenMean => 0b0100 | .meanThenPlaus => 0b0110 } ∧
      (s.record.curRaw.toInt < 0 → w.toInt = 0) ∧
      (4096 < s.record.curRaw.toInt → w.toInt = 4096) ∧
      (0 ≤ s.record.curRaw.toInt → s.record.curRaw.toInt ≤ 4096 → w = s.record.curRaw))

/-- 41_plausible_filter.md R121, R122: PLAUS.S in each of its four cases. The transient count is exact. -/
def Obligations.PlausSUpdatesTheSetpointChannel : Prop :=
  ∀ s : State, cfgCheck s.cfg = none →
    ∃ (last out : Word) (fails : Count),
      exec .plausS s = .next { s with
        plausS := { valid := true, last := last, fails := fails }
        record := { s.record with setClip := out }
        stage := match s.cfg.filterOrder with | .plausThenMean => 0b0110 | .meanThenPlaus => 0b0111 } ∧
      (s.plausS.valid = false → last = s.record.setClip ∧ out = s.record.setClip ∧ fails = s.plausS.fails) ∧
      (s.plausS.valid = true → (s.plausS.last.toInt - s.record.setClip.toInt).natAbs ≤ s.cfg.diffS.toNat →
        last = s.record.setClip ∧ out = s.record.setClip ∧ fails = 0) ∧
      (s.plausS.valid = true → s.cfg.diffS.toNat < (s.plausS.last.toInt - s.record.setClip.toInt).natAbs →
        s.cfg.failsS.toNat < s.plausS.fails.toNat + 1 →
        last = s.record.setClip ∧ out = s.record.setClip ∧ fails = 0) ∧
      (s.plausS.valid = true → s.cfg.diffS.toNat < (s.plausS.last.toInt - s.record.setClip.toInt).natAbs →
        s.plausS.fails.toNat + 1 ≤ s.cfg.failsS.toNat →
        last = s.plausS.last ∧ out = s.plausS.last ∧ fails.toNat = s.plausS.fails.toNat + 1)

/-- 41_plausible_filter.md R121, R123: PLAUS.C in each of its four cases. -/
def Obligations.PlausCUpdatesTheSensorChannel : Prop :=
  ∀ s : State, cfgCheck s.cfg = none →
    ∃ (last out : Word) (fails : Count),
      exec .plausC s = .next { s with
        plausC := { valid := true, last := last, fails := fails }
        record := { s.record with curClip := out }
        stage := match s.cfg.filterOrder with | .plausThenMean => 0b0111 | .meanThenPlaus => 0b1000 } ∧
      (s.plausC.valid = false → last = s.record.curClip ∧ out = s.record.curClip ∧ fails = s.plausC.fails) ∧
      (s.plausC.valid = true → (s.plausC.last.toInt - s.record.curClip.toInt).natAbs ≤ s.cfg.diffC.toNat →
        last = s.record.curClip ∧ out = s.record.curClip ∧ fails = 0) ∧
      (s.plausC.valid = true → s.cfg.diffC.toNat < (s.plausC.last.toInt - s.record.curClip.toInt).natAbs →
        s.cfg.failsC.toNat < s.plausC.fails.toNat + 1 →
        last = s.record.curClip ∧ out = s.record.curClip ∧ fails = 0) ∧
      (s.plausC.valid = true → s.cfg.diffC.toNat < (s.plausC.last.toInt - s.record.curClip.toInt).natAbs →
        s.plausC.fails.toNat + 1 ≤ s.cfg.failsC.toNat →
        last = s.plausC.last ∧ out = s.plausC.last ∧ fails.toNat = s.plausC.fails.toNat + 1)

/-- 40_mean_filter.md R101, R103, R105: MEAN.S; the quotient is of the exact sum, toward zero, and always fits. -/
def Obligations.MeanSUpdatesTheSetpointChannel : Prop :=
  ∀ s : State, cfgCheck s.cfg = none →
    ∃ out : Word,
      exec .meanS s = .next { s with
        meanS := { valid := true, last := out }
        record := { s.record with setClip := out }
        stage := match s.cfg.filterOrder with | .plausThenMean => 0b0101 | .meanThenPlaus => 0b0100 } ∧
      (s.meanS.valid = false → out = s.record.setClip) ∧
      (s.meanS.valid = true → out.toInt =
        (s.meanS.last.toInt * ((s.cfg.nS.toNat : Int) - 1) + s.record.setClip.toInt).tdiv s.cfg.nS.toNat)

/-- 40_mean_filter.md R101, R103, R106: MEAN.C. -/
def Obligations.MeanCUpdatesTheSensorChannel : Prop :=
  ∀ s : State, cfgCheck s.cfg = none →
    ∃ out : Word,
      exec .meanC s = .next { s with
        meanC := { valid := true, last := out }
        record := { s.record with curClip := out }
        stage := match s.cfg.filterOrder with | .plausThenMean => 0b1000 | .meanThenPlaus => 0b0101 } ∧
      (s.meanC.valid = false → out = s.record.curClip) ∧
      (s.meanC.valid = true → out.toInt =
        (s.meanC.last.toInt * ((s.cfg.nC.toNat : Int) - 1) + s.record.curClip.toInt).tdiv s.cfg.nC.toNat)

/-- 43_temperature_mapping.md R155, R156: MAP.S, the three bands with all four edges inclusive. -/
def Obligations.MapSGivesTheThreeBands : Prop :=
  ∀ s : State, cfgCheck s.cfg = none →
    ∃ w : Word, exec .mapS s = .next { s with record := { s.record with setMdeg := w }, stage := 0b1001 } ∧
      (0 ≤ s.record.setClip.toInt → s.record.setClip.toInt ≤ 180 → w.toInt = 5000) ∧
      (181 ≤ s.record.setClip.toInt → s.record.setClip.toInt ≤ 660 → w.toInt = 10000) ∧
      (s.record.setClip.toInt < 0 ∨ 661 ≤ s.record.setClip.toInt → w.toInt = 15000)

/-- 43_temperature_mapping.md R157, R158, R161: MAP.C is `x × 100 − 4000`, exact, for every reading whose temperature
fits 32 bits. -/
def Obligations.MapCIsTheAffineMap : Prop :=
  ∀ s : State, cfgCheck s.cfg = none →
    -21474796 ≤ s.record.curClip.toInt → s.record.curClip.toInt ≤ 21474876 →
    ∃ w : Word, exec .mapC s = .next { s with record := { s.record with curMdeg := w }, stage := 0b1010 } ∧
      w.toInt = s.record.curClip.toInt * 100 - 4000

/-- 43_temperature_mapping.md R161, 93_implementation_defined.md U4: MAP.C refuses a reading whose temperature does
not fit 32 bits (how the refusal shows is the model's, notes/assumptions/4.md). -/
def Obligations.MapCRefusesWhatDoesNotFit : Prop :=
  ∀ s : State, cfgCheck s.cfg = none →
    s.record.curClip.toInt < -21474796 ∨ 21474876 < s.record.curClip.toInt →
    exec .mapC s = .refused (.temperatureDoesNotFit s.record.curClip)

/-- 44_control_hysteresis.md R171, R172, R173, R175: CTRL, both thresholds inclusive, the dead band keeping the state;
the sums do not wrap. -/
def Obligations.CtrlFollowsTheTransitionTable : Prop :=
  ∀ s : State, cfgCheck s.cfg = none →
    ∃ next : Bool,
      exec .ctrl s = .next { s with cooling := next, record := { s.record with comp := next }, stage := 0b1011 } ∧
      (s.record.setMdeg.toInt + s.cfg.h.toNat ≤ s.record.curMdeg.toInt → next = true) ∧
      (s.record.curMdeg.toInt ≤ s.record.setMdeg.toInt - s.cfg.h.toNat → next = false) ∧
      (s.record.setMdeg.toInt - s.cfg.h.toNat < s.record.curMdeg.toInt →
        s.record.curMdeg.toInt < s.record.setMdeg.toInt + s.cfg.h.toNat → next = s.cooling)

/-- 45_actuation.md R186, R187, R188: ACT drives both lines, toggles the phase on a multiple of the duty divisor, and
advances the count by one modulo `LED_CNT_MOD`. -/
def Obligations.ActDrivesTheLines : Prop :=
  ∀ s : State, cfgCheck s.cfg = none →
    ∃ (phase : Bool) (cnt : Count),
      exec .act s = .next { s with
        lines := { comp := s.record.comp, led := phase }
        act := { ledPhase := phase, ledCnt := cnt }
        stage := 0b1100 } ∧
      (s.record.comp = true → phase = !s.act.ledPhase) ∧
      (s.record.comp = false → s.act.ledCnt.toNat % s.cfg.ledIdleDiv.toNat = 0 → phase = !s.act.ledPhase) ∧
      (s.record.comp = false → s.act.ledCnt.toNat % s.cfg.ledIdleDiv.toNat ≠ 0 → phase = s.act.ledPhase) ∧
      cnt.toNat = (s.act.ledCnt.toNat + 1) % s.cfg.ledCntMod.toNat

/-- 46_trace.md R200: TRACE copies the command and the two temperatures, and raises the strobe; the step after it
lowers the strobe, and without a reset keeps the three values. -/
def Obligations.TracePresentsTheRecord : Prop :=
  ∀ s : State, cfgCheck s.cfg = none →
    exec .trace s = .next { s with
      trace := { valid := true, comp := s.record.comp, setMdeg := s.record.setMdeg, curMdeg := s.record.curMdeg }
      stage := 0b0000 } ∧
    ∀ t, exec .trace s = .next t → ∃ u, step t = .next u ∧ u.trace.valid = false ∧
      (t.pins.rst = false → u.trace = { t.trace with valid := false })

/-! ### What only some operations do -/

/-- The "written by" columns of 10_state.md R21, R24, R26, R30, R32, R33, R34, and R38: in a step without reset, each
element is as before unless the operation is one of its writers; the configuration always is. -/
def Obligations.EachElementChangesOnlyByItsWriters : Prop :=
  ∀ (s t : State) (i : Instr), s.pins.rst = false → decode s.stage = .ok i → step s = .next t →
    t.cfg = s.cfg ∧
    (i ≠ .acq → t.record.setRaw = s.record.setRaw ∧ t.record.curRaw = s.record.curRaw) ∧
    (i ∉ [Instr.clipS, .plausS, .meanS] → t.record.setClip = s.record.setClip) ∧
    (i ∉ [Instr.clipC, .plausC, .meanC] → t.record.curClip = s.record.curClip) ∧
    (i ≠ .mapS → t.record.setMdeg = s.record.setMdeg) ∧
    (i ≠ .mapC → t.record.curMdeg = s.record.curMdeg) ∧
    (i ≠ .ctrl → t.record.comp = s.record.comp ∧ t.cooling = s.cooling) ∧
    (i ≠ .meanS → t.meanS = s.meanS) ∧ (i ≠ .meanC → t.meanC = s.meanC) ∧
    (i ≠ .plausS → t.plausS = s.plausS) ∧ (i ≠ .plausC → t.plausC = s.plausC) ∧
    (i ≠ .act → t.act = s.act ∧ t.lines = s.lines) ∧
    (i ≠ .trace → t.trace.comp = s.trace.comp ∧ t.trace.setMdeg = s.trace.setMdeg ∧
      t.trace.curMdeg = s.trace.curMdeg ∧ t.trace.valid = false)

/-- The spec's own inference (10_state.md R25, R37): a filter that holds a value goes on holding one until a reset. -/
def Obligations.ValidBitsFallOnlyByReset : Prop :=
  ∀ s t : State, s.pins.rst = false → step s = .next t →
    (s.meanS.valid = true → t.meanS.valid = true) ∧ (s.meanC.valid = true → t.meanC.valid = true) ∧
    (s.plausS.valid = true → t.plausS.valid = true) ∧ (s.plausC.valid = true → t.plausC.valid = true)

/-- 46_trace.md R200: the strobe is 1 after TRACE's step and 0 again after the next one, be it IDLE or a reset. -/
def Obligations.StrobePulsesForOneStep : Prop :=
  ∀ s : State, Inv s → s.pins.rst = false → s.stage = 0b1100 →
    ∃ t u, step s = .next t ∧ t.trace.valid = true ∧ step t = .next u ∧ u.trace.valid = false

/-- 47_sequencer_tick.md R214, R215: in a tick, `tick_i` is not looked at; after ACQ, the sample ports are not. Two
states that differ there only step alike, but for the ports themselves. -/
def Obligations.PortsAreIgnoredDuringATick : Prop :=
  ∀ (s u : State) (request : Bool) (a b : Word), s.pins.rst = false → step s = .next u →
    (s.stage ≠ 0b0000 →
      ∃ v, step { s with pins := { s.pins with tick := request } } = .next v ∧ SameButHost u v) ∧
    (s.stage ≠ 0b0001 →
      ∃ v, step { s with pins := { s.pins with adcSet := a, adcCur := b } } = .next v ∧ SameButHost u v)

/-- The spec's own inference (10_state.md R29): an operation of the setpoint channel and one of the sensor channel
commute; only `seq.stage`, which the order itself drives, is left out. -/
def Obligations.ChannelOperationsCommute : Prop :=
  ∀ (s : State) (i j : Instr), cfgCheck s.cfg = none →
    i ∈ [Instr.clipS, .plausS, .meanS] → j ∈ [Instr.clipC, .plausC, .meanC] →
    ∃ t1 t2 u v, exec i s = .next t1 ∧ exec j t1 = .next u ∧ exec j s = .next t2 ∧ exec i t2 = .next v ∧
      v = { u with stage := v.stage }

/-- The spec's own inference (45_actuation.md R191): the indicator has no effect on anything else, over any number of
steps. -/
def Obligations.IndicatorInfluencesNothingElse : Prop :=
  ∀ (k : Nat) (s t u : State), SameButIndicator s t → run k s = .next u →
    ∃ v, run k t = .next v ∧ SameButIndicator u v

/-- The spec's own inference (10_state.md R22; 20_memory.md R69): a tick reads nothing of the record, of the lines or of
the trace ports that an earlier tick left there, whatever it is. -/
def Obligations.TickReadsNoEarlierRecord : Prop :=
  ∀ (s : State) (r : SampleRecord) (l : Lines) (o : TracePorts),
    Inv s → s.stage = 0b0000 → s.pins.rst = false → s.pins.tick = true → (∀ p ∈ s.hostPlan.take 12, p.rst = false) →
    ∃ t, run 13 s = .next t ∧ run 13 { s with record := r, lines := l, trace := o } = .next t

/-! ### The invariant -/

/-- Construction gives the reset state (70_reset_and_hazards.md R264), `Inv` holds there for every configuration an
instance can have, and `State.reset` is such a state. The configuration of `State.reset` and the levels on the ports
in a reset state are the model's choice (notes/assumptions/1.md, 5.md, 6.md). -/
def Obligations.InvHoldsAfterReset : Prop :=
  (∀ (r : RawConfig) (s : State), construct r = .next s → s = State.resetOf s.cfg ∧ Inv s) ∧
  (∀ c : Cfg, cfgCheck c = none → Inv (State.resetOf c)) ∧ Inv State.reset

/-- Every step keeps `Inv`, whose clauses are ranges and relations that the spec infers or states (10_state.md R25,
R27, R31, R32, R35; 43_temperature_mapping.md R160; 45_actuation.md R187; 20_memory.md R74). -/
def Obligations.StepKeepsInv : Prop :=
  ∀ s t : State, Inv s → step s = .next t → Inv t

/-- The spec's own inference (60_exceptions.md R230): from a state with `Inv` the machine runs on for ever, under
every plan of the host; no step faults, refuses or is stuck. -/
def Obligations.EveryRunFromInvGoesOn : Prop :=
  ∀ (s : State) (k : Nat), Inv s → ∃ t, run k s = .next t ∧ Inv t

/-! ### The tick -/

/-- The spec's own inference (47_sequencer_tick.md R216, R217): the thirteen steps of an accepted tick are the atomic
step on the samples that the ports carry at ACQ's read (notes/assumptions/8.md), which is the second step: the first
entry of the host's plan, or the present levels where nothing is planned (notes/assumptions/6.md). Whatever the host does
on `tick_i` after the request and on the sample ports after ACQ has no effect. -/
def Obligations.ThirteenStepsAreTheAtomicTick : Prop :=
  ∀ s : State, Inv s → s.stage = 0b0000 → s.pins.rst = false → s.pins.tick = true →
    (∀ p ∈ s.hostPlan.take 12, p.rst = false) →
    ∃ t u, run 13 s = .next t ∧
      tick s { set := (s.hostPlan.headD s.pins).adcSet, cur := (s.hostPlan.headD s.pins).adcCur } = .next u ∧
      SameButHost u t

/-- The spec's own inference (47_sequencer_tick.md R216; 60_exceptions.md R230): from a state in IDLE with `Inv` the atomic
tick gives a state in IDLE with `Inv`, on every pair of samples. -/
def Obligations.AtomicTickGoesOn : Prop :=
  ∀ (s : State) (x : Stimulus), Inv s → s.stage = 0b0000 → ∃ t, tick s x = .next t ∧ t.stage = 0b0000 ∧ Inv t

/-- THE MODEL'S CHOICE of how the atomic tick shows what 47_sequencer_tick.md R216 does not give (notes/assumptions/17.md):
it answers a refusal for a configuration that construction refuses (93_implementation_defined.md U1), in mid-tick, and
where the thirteen steps refuse at MAP.C (U4); otherwise it answers a next state. -/
def Obligations.AtomicTickRefusesOutsideItsDomain : Prop :=
  ∀ (s : State) (x : Stimulus),
    (∀ r, cfgCheck s.cfg = some r → tick s x = .refused (.invalidConfig r)) ∧
    (cfgCheck s.cfg = none → s.stage ≠ 0b0000 → tick s x = .refused (.tickInProgress s.stage)) ∧
    (cfgCheck s.cfg = none → s.stage = 0b0000 →
      (condition s .C (clip x.cur.toInt 0 4096)).2.2 < -21474796 ∨ 21474876 < (condition s .C (clip x.cur.toInt 0 4096)).2.2 →
      ∃ w : Word, w.toInt = (condition s .C (clip x.cur.toInt 0 4096)).2.2 ∧
        tick s x = .refused (.temperatureDoesNotFit w)) ∧
    (cfgCheck s.cfg = none → s.stage = 0b0000 →
      -21474796 ≤ (condition s .C (clip x.cur.toInt 0 4096)).2.2 → (condition s .C (clip x.cur.toInt 0 4096)).2.2 ≤ 21474876 →
      ∃ t, tick s x = .next t ∧ t.record.curMdeg.toInt = (condition s .C (clip x.cur.toInt 0 4096)).2.2 * 100 - 4000)

/-- What 30_encoding.md R89, R90 write as RESET and TICK lines (as port levels: notes/assumptions/14.md), against the
atomic steps of 47_sequencer_tick.md R216 (the spec's own inference) and 70_reset_and_hazards.md R260: RESET and TICK
lines, played on the ports step by step, run as that many atomic resets and ticks. -/
def Obligations.PlayedActionsRunAsAtomicSteps : Prop :=
  ∀ (s : State) (l : List Action), Inv s → s.stage = 0b0000 → s.hostPlan = [] →
    ∃ t u, run (programLevels l).length (playLevels s (programLevels l)) = .next t ∧
      actionSteps l s = .next u ∧ SameButHost u t

/-- 47_sequencer_tick.md R221: the run of a test program ends in IDLE after the TRACE of its last TICK, whatever RESET
lines come after it, in the state of the atomic resets and ticks up to there. The port levels are the model's
(notes/assumptions/14.md), and so is the end of a program with no TICK, in the constructed state (18.md). -/
def Obligations.ProgramRunEndsAfterItsLastTick : Prop :=
  ∀ (c : RawConfig) (s : State), construct c = .next s →
    (∀ (l : List Action) (x : Stimulus) (n : Nat), ∃ t u,
      runProgram { config := c, actions := l ++ .tick x :: List.replicate n .reset } = .next t ∧
      actionSteps (l ++ [.tick x]) s = .next u ∧ SameButHost u t ∧ t.stage = 0b0000 ∧ t.trace.valid = true) ∧
    ∀ n : Nat, runProgram { config := c, actions := List.replicate n .reset } = .next s

/-- The spec's own inference (47_sequencer_tick.md R219; 70_reset_and_hazards.md R266), played on the ports as a TICK
line (the model's levels, notes/assumptions/14.md): in the first tick after reset the clipped readings reach the mappings
unfiltered, under either filter order; `comp_o` follows the decision and `led_o` goes high (45_actuation.md R186). -/
def Obligations.FirstTickIsUnfiltered : Prop :=
  ∀ (c : Cfg) (x : Stimulus), cfgCheck c = none →
    ∃ t, run 13 (playLevels (State.resetOf c) (tickLevels x)) = .next t ∧
      t.record.setClip.toInt = clip x.set.toInt 0 4096 ∧ t.record.curClip.toInt = clip x.cur.toInt 0 4096 ∧
      t.record.setMdeg.toInt = mapSet (clip x.set.toInt 0 4096) ∧
      t.record.curMdeg.toInt = clip x.cur.toInt 0 4096 * 100 - 4000 ∧
      t.cooling = ctrlStep c.h.toNat false (mapSet (clip x.set.toInt 0 4096)) (clip x.cur.toInt 0 4096 * 100 - 4000) ∧
      t.lines = { comp := t.cooling, led := true }

/-- The spec's own inference (40_mean_filter.md R109 (a); 43_temperature_mapping.md R162): with constant samples since
reset, every tick's filtered readings are the clipped samples, under either filter order; a setpoint sample of 400
gives 10000. -/
def Obligations.ConstantSamplesStayUnfiltered : Prop :=
  ∀ (c : Cfg) (x : Stimulus) (k : Nat), cfgCheck c = none →
    ∃ t, ticks (List.replicate (k + 1) x) (State.resetOf c) = .next t ∧
      t.record.setClip.toInt = clip x.set.toInt 0 4096 ∧ t.record.curClip.toInt = clip x.cur.toInt 0 4096 ∧
      (x.set = 400 → t.record.setMdeg = 10000)

/-- The spec's own inference (47_sequencer_tick.md R218): the two filter orders agree when both filters of both channels
are pass-throughs, in every tick from every state, a refusal included; and when the samples have been constant since
reset. -/
def Obligations.FilterOrdersAgreeOnPassThroughAndConstantInput : Prop :=
  (∀ (s : State) (o : FilterOrder) (x : Stimulus),
    s.cfg.nS = 1 → s.cfg.nC = 1 → s.cfg.failsS = 0 → s.cfg.failsC = 0 →
    tick { s with cfg := { s.cfg with filterOrder := o } } x =
      mapNext (fun t => { t with cfg := { s.cfg with filterOrder := o } }) (tick s x)) ∧
  ∀ (c : Cfg) (o : FilterOrder) (x : Stimulus) (k : Nat), cfgCheck c = none →
    ∃ t, ticks (List.replicate k x) (State.resetOf c) = .next t ∧
      ticks (List.replicate k x) (State.resetOf { c with filterOrder := o }) =
        .next { t with cfg := { c with filterOrder := o } }

/-! ### The mean filter -/

/-- The spec's own inference for integers (40_mean_filter.md R104): outputs of inputs within [lo, hi] are within [lo,
hi], for every input sequence. -/
def Obligations.MeanOutputsStayWithinTheInputs : Prop :=
  ∀ (n : Nat) (lo hi : Int) (st : Option Int) (xs : List Int), 1 ≤ n →
    (∀ last, st = some last → lo ≤ last ∧ last ≤ hi) → (∀ x ∈ xs, lo ≤ x ∧ x ≤ hi) →
    ∀ y ∈ meanOutputs n st xs, lo ≤ y ∧ y ≤ hi

/-- The spec's own inference (40_mean_filter.md R107): with N = 1 every output equals its input, from every state. -/
def Obligations.MeanOfWindowOnePassesThrough : Prop :=
  ∀ (st : Option Int) (xs : List Int), meanOutputs 1 st xs = xs ∧
    ∀ value, (meanUpdate 1 st value).1 = some value

/-- The spec's own inference (40_mean_filter.md R108): the closed form on non-negative operands, rounding toward minus
infinity. -/
def Obligations.MeanClosedForm : Prop :=
  ∀ (n : Nat) (last value : Int), 1 ≤ n → 0 ≤ last → 0 ≤ value →
    (meanUpdate n (some last) value).2 = last + (value - last).fdiv n

/-- The spec's own inference (40_mean_filter.md R109): on a constant input v, (a) a fresh filter is at v and stays;
(b) from above it falls by the rounded-up share and reaches v exactly; (c) from below it rises by the rounded-down
share and comes to rest at most N − 1 short of v, for good. -/
def Obligations.MeanOnAConstantInput : Prop :=
  ∀ (n : Nat) (v : Int), 1 ≤ n → 0 ≤ v →
    (∀ k, meanOutputs n none (List.replicate k v) = List.replicate k v) ∧
    (∀ last, v < last → (meanUpdate n (some last) v).2 = last - ((last - v) + (n - 1)) / n ∧
      v ≤ (meanUpdate n (some last) v).2 ∧ (meanUpdate n (some last) v).2 ≤ last - 1) ∧
    (∀ last, v < last → ∃ k, ∀ j, k ≤ j → meanAfter n v j last = v) ∧
    (∀ last, 0 ≤ last → last ≤ v → (meanUpdate n (some last) v).2 = last + (v - last) / n) ∧
    (∀ last, 0 ≤ last → last ≤ v → ∃ k, ∀ j, k ≤ j →
      meanAfter n v j last = meanAfter n v k last ∧
      0 ≤ v - meanAfter n v k last ∧ v - meanAfter n v k last ≤ n - 1)

/-! ### The plausibility filter -/

/-- The spec's own inference (41_plausible_filter.md R126, R127): the stored count never exceeds the tolerance and is
0 while nothing has been accepted; the output and the new last value are the input or the old last value. -/
def Obligations.PlausKeepsItsCountAndEchoesItsInputs : Prop :=
  ∀ (diff numFails : Nat) (st : Option Int × Nat) (value : Int),
    (st.2 ≤ numFails → (st.1 = none → st.2 = 0) →
      (plausUpdate diff numFails st value).1.2 ≤ numFails ∧
      ((plausUpdate diff numFails st value).1.1 = none → (plausUpdate diff numFails st value).1.2 = 0)) ∧
    ((plausUpdate diff numFails st value).2 = value ∨ st.1 = some (plausUpdate diff numFails st value).2) ∧
    (plausUpdate diff numFails st value).1.1 = some (plausUpdate diff numFails st value).2

/-- The spec's own inference (41_plausible_filter.md R128): from a count of 0, a run of `num_fails` + 1 inputs each
out of band against the last value is rejected `num_fails` times and then accepted, with the latest input; an in-band
input resets the count. -/
def Obligations.PlausRetriesAreBounded : Prop :=
  (∀ (diff numFails : Nat) (x latest : Int) (early : List Int), early.length = numFails →
    (∀ v ∈ early ++ [latest], diff < (x - v).natAbs) →
    plausOutputs diff numFails (some x, 0) (early ++ [latest]) =
      (List.replicate numFails x ++ [latest], (some latest, 0))) ∧
  (∀ (diff numFails fails : Nat) (x v : Int), (x - v).natAbs ≤ diff →
    plausUpdate diff numFails (some x, fails) v = ((some v, 0), v)) ∧
  (plausOutputs 10 3 (some 100, 0) [100, 500, 500, 500, 500]).1 = [100, 100, 100, 100, 500]

/-- The spec's own inference (41_plausible_filter.md R129): with `num_fails` = 0 the filter is a pass-through,
whatever `diff` is, and the count stays 0. -/
def Obligations.PlausWithoutToleranceIsAPassThrough : Prop :=
  ∀ (diff : Nat) (last : Option Int) (xs : List Int),
    (plausOutputs diff 0 (last, 0) xs).1 = xs ∧ (plausOutputs diff 0 (last, 0) xs).2.2 = 0

/-- The spec's own inference (70_reset_and_hazards.md R275): readings whose tick-to-tick step is at most `diff` pass
unchanged, without delay. -/
def Obligations.SlowRampPassesThePlausibilityFilter : Prop :=
  ∀ (diff numFails fails : Nat) (x : Int) (xs : List Int),
    List.IsChain (fun a b : Int => (a - b).natAbs ≤ diff) (x :: xs) →
    (plausOutputs diff numFails (some x, fails) xs).1 = xs

/-! ### Control and actuation over many ticks -/

/-- The spec's own inference (44_control_hysteresis.md R176): while the setpoint temperature is constant, between two
successive changes of the compressor state the sensor temperature has moved by at least 2 × H. -/
def Obligations.CompressorChangesNeedTwoHalfBands : Prop :=
  ∀ (xs : List Stimulus) (u : Nat → State) (setpoint : Word) (i j : Nat), Inv (u 0) → TickRun xs u →
    i < j → j < xs.length → (∀ k ≤ xs.length, 1 ≤ k → (u k).record.setMdeg = setpoint) →
    (u i).cooling ≠ (u (i + 1)).cooling → (∀ k, i < k → k ≤ j → (u k).cooling = (u (i + 1)).cooling) →
    (u j).cooling ≠ (u (j + 1)).cooling →
    2 * ((u 0).cfg.h.toNat : Int) ≤
      ((u (i + 1)).record.curMdeg.toInt - (u (j + 1)).record.curMdeg.toInt).natAbs

/-- The spec's own inference (44_control_hysteresis.md R176): temperatures strictly inside the dead band never change
the compressor state. -/
def Obligations.DeadBandNeverChatters : Prop :=
  ∀ (xs : List Stimulus) (u : Nat → State), Inv (u 0) → TickRun xs u →
    (∀ k ≤ xs.length, 1 ≤ k →
      (u k).record.setMdeg.toInt - (u 0).cfg.h.toNat < (u k).record.curMdeg.toInt ∧
      (u k).record.curMdeg.toInt < (u k).record.setMdeg.toInt + (u 0).cfg.h.toNat) →
    ∀ k ≤ xs.length, (u k).cooling = (u 0).cooling

/-- 44_control_hysteresis.md R173, 70_reset_and_hazards.md R277: with H above 400600 the compressor never starts. -/
def Obligations.WideHalfBandNeverStartsTheCompressor : Prop :=
  ∀ (s t : State) (k : Nat), Inv s → 400600 < s.cfg.h.toNat → s.cooling = false → s.lines.comp = false →
    run k s = .next t → t.cooling = false ∧ t.lines.comp = false

/-- Over any list of ticks, whatever the command does: `led_o` is the phase, and a tick changes it exactly when the count
before the tick is a multiple of the duty divisor of the tick's command (45_actuation.md R186). The spec's own inference
from that (R189): while the command stays 1, k ticks toggle it k times; while it stays 0 and the count does not wrap, k
ticks from a count n toggle it ⌈(n + k) / div⌉ − ⌈n / div⌉ times. -/
def Obligations.IndicatorRates : Prop :=
  ∀ (xs : List Stimulus) (u : Nat → State), Inv (u 0) → TickRun xs u →
    (∀ k ≤ xs.length, (u k).lines.led = (u k).act.ledPhase) ∧
    (∀ k < xs.length,
      ((u (k + 1)).lines.led ≠ (u k).lines.led ↔
        (u k).act.ledCnt.toNat % (if (u (k + 1)).lines.comp then 1 else (u 0).cfg.ledIdleDiv.toNat) = 0)) ∧
    ((∀ k ≤ xs.length, 1 ≤ k → (u k).lines.comp = true) →
      (u xs.length).lines.led = ((u 0).lines.led ^^ decide (xs.length % 2 = 1))) ∧
    ((∀ k ≤ xs.length, 1 ≤ k → (u k).lines.comp = false) →
      (u 0).act.ledCnt.toNat + xs.length ≤ (u 0).cfg.ledCntMod.toNat →
      (u xs.length).lines.led = ((u 0).lines.led ^^ decide
        ((((u 0).act.ledCnt.toNat + xs.length + ((u 0).cfg.ledIdleDiv.toNat - 1)) / (u 0).cfg.ledIdleDiv.toNat -
          ((u 0).act.ledCnt.toNat + ((u 0).cfg.ledIdleDiv.toNat - 1)) / (u 0).cfg.ledIdleDiv.toNat) % 2 = 1)))

/-- The spec's own inference (45_actuation.md R190), over any list of ticks: the count advances by one in every tick,
modulo `LED_CNT_MOD`, whatever the command is. While the command stays 0, two successive changes of `led_o` are the idle
divisor apart, but 1 + ((`LED_CNT_MOD` − 1) mod div) apart where the second is at the count 0 after a wrap; that is the
divisor if the divisor divides `LED_CNT_MOD`, and shorter if not. -/
def Obligations.TickCounterWraps : Prop :=
  ∀ (xs : List Stimulus) (u : Nat → State), Inv (u 0) → TickRun xs u →
    (∀ k ≤ xs.length, (u k).act.ledCnt.toNat = ((u 0).act.ledCnt.toNat + k) % (u 0).cfg.ledCntMod.toNat) ∧
    ((∀ k ≤ xs.length, 1 ≤ k → (u k).lines.comp = false) →
      ∀ i j, i < j → j < xs.length → (u (i + 1)).lines.led ≠ (u i).lines.led →
        (∀ k, i < k → k < j → (u (k + 1)).lines.led = (u k).lines.led) → (u (j + 1)).lines.led ≠ (u j).lines.led →
        ((u j).act.ledCnt = 0 → j - i = 1 + ((u 0).cfg.ledCntMod.toNat - 1) % (u 0).cfg.ledIdleDiv.toNat) ∧
        ((u j).act.ledCnt ≠ 0 → j - i = (u 0).cfg.ledIdleDiv.toNat) ∧
        ((u 0).cfg.ledIdleDiv.toNat ∣ (u 0).cfg.ledCntMod.toNat → j - i = (u 0).cfg.ledIdleDiv.toNat) ∧
        (¬ (u 0).cfg.ledIdleDiv.toNat ∣ (u 0).cfg.ledCntMod.toNat → (u j).act.ledCnt = 0 →
          j - i < (u 0).cfg.ledIdleDiv.toNat))

/-- 44_control_hysteresis.md R174: where both conditions hold the cooling-on test comes first; with H ≥ 1 they exclude
each other. -/
def Obligations.CoolingOnTestComesFirst : Prop :=
  ∀ (h setpoint current : Int) (cooling : Bool),
    (setpoint + h ≤ current → current ≤ setpoint - h → ctrlStep h cooling setpoint current = true) ∧
    (1 ≤ h → ¬ (setpoint + h ≤ current ∧ current ≤ setpoint - h))

/-! ### Outputs seen by the host -/

/-- 10_state.md R36: `busy_o` is 1 exactly when `seq.stage` is not IDLE, and `stage_o` is a copy of it; after reset
they are 0 and 0000. -/
def Obligations.BusyAndStagePortsFollowTheStage : Prop :=
  (∀ s : State, (busyO s = true ↔ s.stage ≠ 0b0000) ∧ stageO s = s.stage) ∧
  ∀ c : Cfg, busyO (State.resetOf c) = false ∧ stageO (State.resetOf c) = 0b0000

/-- 46_trace.md R202: the three parts of a temperature make it up again, and the fraction is below 1000. -/
def Obligations.TemperatureIsMadeOfItsParts : Prop :=
  ∀ t : Int, t = (if mdegNegative t then -1 else 1) * ((mdegWhole t : Int) * 1000 + mdegFrac t) ∧
    mdegFrac t < 1000 ∧ (mdegNegative t = true ↔ t < 0)
end

