-- ==== Sys2Proof/Laws/Arithmetic.lean ====
section
/-! SUPPORT. What the arithmetic primitives and the pure functions of the operations give, each said once. -/

namespace Sys2Proof.Machine

/-! ### Narrowing -/

theorem narrow_toInt {x : Int} (lo : -2 ^ 31 ≤ x) (hi : x ≤ 2 ^ 31 - 1) : (narrow x).toInt = x := by
  unfold narrow
  rw [BitVec.toInt_ofInt]
  exact Int.bmod_eq_of_le (by omega) (by omega)

@[simp] theorem narrow_of_toInt (w : Word) : narrow w.toInt = w := by simp [narrow]

theorem word_toInt_range (w : Word) : -2 ^ 31 ≤ w.toInt ∧ w.toInt ≤ 2 ^ 31 - 1 := by
  have h1 := BitVec.le_toInt w
  have h2 := BitVec.toInt_lt (x := w)
  omega

theorem fitsWord_iff (x : Int) : fitsWord x = true ↔ -2 ^ 31 ≤ x ∧ x ≤ 2 ^ 31 - 1 := by
  simp [fitsWord]

/-! ### `tdiv` -/

theorem tdiv_of_nonneg {a n : Int} (h : 0 ≤ a) : tdiv a n = a / n := if_pos h

theorem tdiv_of_neg {a n : Int} (h : a < 0) : tdiv a n = -((-a) / n) := if_neg (by omega)

/-- The quotient is Lean's own division toward zero. -/
theorem tdiv_eq_tdiv (a n : Int) : tdiv a n = a.tdiv n := by
  rcases lt_or_ge a 0 with h | h
  · rw [tdiv_of_neg h, ← Int.tdiv_eq_ediv_of_nonneg (by omega : 0 ≤ -a), Int.neg_tdiv, Int.neg_neg]
  · rw [tdiv_of_nonneg h, Int.tdiv_eq_ediv_of_nonneg h]

/-! ### `clip` -/

theorem clip_range {lo hi : Int} (h : lo ≤ hi) (x : Int) : lo ≤ clip x lo hi ∧ clip x lo hi ≤ hi := by
  unfold clip
  split
  · omega
  · split <;> omega

theorem clip_of_mem {lo hi x : Int} (h1 : lo ≤ x) (h2 : x ≤ hi) : clip x lo hi = x := by
  unfold clip
  rw [if_neg (by omega), if_neg (by omega)]

/-! ### `plausUpdate`: the four cases of 41_plausible_filter.md R121 -/

theorem inBand_iff (diff : Nat) (x value : Int) : inBand diff x value = true ↔ (x - value).natAbs ≤ diff := by
  simp [inBand, absInt]

@[simp] theorem plausUpdate_none (diff numFails fails : Nat) (value : Int) :
    plausUpdate diff numFails (none, fails) value = ((some value, fails), value) := rfl

theorem plausUpdate_accept {diff : Nat} {x value : Int} (h : (x - value).natAbs ≤ diff) (numFails fails : Nat) :
    plausUpdate diff numFails (some x, fails) value = ((some value, 0), value) := by
  simp [plausUpdate, (inBand_iff diff x value).2 h]

theorem plausUpdate_force {diff numFails fails : Nat} {x value : Int} (h : diff < (x - value).natAbs)
    (hf : numFails < fails + 1) : plausUpdate diff numFails (some x, fails) value = ((some value, 0), value) := by
  have : ¬ inBand diff x value = true := by rw [inBand_iff]; omega
  simp [plausUpdate, this, hf]

theorem plausUpdate_reject {diff numFails fails : Nat} {x value : Int} (h : diff < (x - value).natAbs)
    (hf : fails + 1 ≤ numFails) : plausUpdate diff numFails (some x, fails) value = ((some x, fails + 1), x) := by
  have : ¬ inBand diff x value = true := by rw [inBand_iff]; omega
  simp [plausUpdate, this]
  omega

/-- Everything an update can do: the new last value is the output, which is the input or the old last value. -/
theorem plausUpdate_cases (diff numFails : Nat) (st : Option Int × Nat) (value : Int) :
    plausUpdate diff numFails st value = ((some value, if st.1 = none then st.2 else 0), value) ∨
    ∃ x, st.1 = some x ∧ diff < (x - value).natAbs ∧ st.2 + 1 ≤ numFails ∧
      plausUpdate diff numFails st value = ((some x, st.2 + 1), x) := by
  obtain ⟨_ | x, fails⟩ := st
  · exact .inl (by simp)
  · rcases Nat.lt_or_ge diff (x - value).natAbs with h | h
    · rcases Nat.lt_or_ge numFails (fails + 1) with hf | hf
      · exact .inl (by simp [plausUpdate_force h hf])
      · exact .inr ⟨x, rfl, h, hf, plausUpdate_reject h hf⟩
    · exact .inl (by simp [plausUpdate_accept h])

/-! ### `meanUpdate` -/

@[simp] theorem meanUpdate_none (n : Nat) (value : Int) : meanUpdate n none value = (some value, value) := rfl

@[simp] theorem meanUpdate_some (n : Nat) (last value : Int) : meanUpdate n (some last) value =
    (some (tdiv (last * ((n : Int) - 1) + value) n), tdiv (last * ((n : Int) - 1) + value) n) := rfl

/-- The new state always holds the output (40_mean_filter.md R101). -/
theorem meanUpdate_fst (n : Nat) (st : Option Int) (value : Int) :
    (meanUpdate n st value).1 = some (meanUpdate n st value).2 := by
  cases st <;> rfl

/-! ### The control law -/

theorem ctrlStep_on {h setpoint current : Int} (c : setpoint + h ≤ current) (cooling : Bool) :
    ctrlStep h cooling setpoint current = true := if_pos c

theorem ctrlStep_off {h setpoint current : Int} (hpos : 0 < h) (c : current ≤ setpoint - h) (cooling : Bool) :
    ctrlStep h cooling setpoint current = false := by
  unfold ctrlStep
  rw [if_neg (by omega), if_pos c]

theorem ctrlStep_dead {h setpoint current : Int} (c1 : setpoint - h < current) (c2 : current < setpoint + h)
    (cooling : Bool) : ctrlStep h cooling setpoint current = cooling := by
  unfold ctrlStep
  rw [if_neg (by omega), if_neg (by omega)]

/-! ### A configuration that construction accepts -/

/-- Check 6, as bounds (60_exceptions.md R231; 10_state.md R38). -/
theorem rawFits_iff (r : RawConfig) : rawFits r = true ↔
    r.nS < 2 ^ 16 ∧ r.nC < 2 ^ 16 ∧ r.diffS < 2 ^ 32 ∧ r.failsS < 2 ^ 16 ∧ r.diffC < 2 ^ 32 ∧
    r.failsC < 2 ^ 16 ∧ r.h < 2 ^ 31 := by
  simp [rawFits, and_assoc]

/-- What acceptance means, as integer bounds (60_exceptions.md R231; 00_scope.md R8). -/
theorem rawCheck_none_iff (r : RawConfig) : rawCheck r = none ↔
    1 ≤ r.nS ∧ 1 ≤ r.nC ∧ 1 ≤ r.h ∧ (1 ≤ r.ledCntMod ∧ r.ledCntMod ≤ 65536) ∧
    (1 ≤ r.ledIdleDiv ∧ r.ledIdleDiv ≤ r.ledCntMod) ∧ rawFits r = true := by
  unfold rawCheck
  split_ifs <;> simp_all <;> omega

/-- The bounds of an instance's configuration. -/
theorem cfgCheck_none_iff (c : Cfg) : cfgCheck c = none ↔
    1 ≤ c.nS.toNat ∧ 1 ≤ c.nC.toNat ∧ 1 ≤ c.h.toNat ∧ (1 ≤ c.ledCntMod.toNat ∧ c.ledCntMod.toNat ≤ 65536) ∧
    (1 ≤ c.ledIdleDiv.toNat ∧ c.ledIdleDiv.toNat ≤ c.ledCntMod.toNat) := by
  have h1 := c.nS.isLt
  have h2 := c.nC.isLt
  have h3 := c.diffS.isLt
  have h4 := c.failsS.isLt
  have h5 := c.diffC.isLt
  have h6 := c.failsC.isLt
  have h7 := c.h.isLt
  unfold cfgCheck
  rw [rawCheck_none_iff, rawFits_iff]
  simp only [cfgRaw]
  omega

end Sys2Proof.Machine
end

