-- ==== Sys2Proof/Laws/State.lean ====
section
/-! SUPPORT. What each write of State leaves in each field: one lemma per field per write. -/

namespace Sys2Proof.Machine

/-! ### `setStage` -/

@[simp] theorem State.setStage_cfg (s : State) (v : Code) : (s.setStage v).cfg = s.cfg := rfl
@[simp] theorem State.setStage_pins (s : State) (v : Code) : (s.setStage v).pins = s.pins := rfl
@[simp] theorem State.setStage_hostPlan (s : State) (v : Code) : (s.setStage v).hostPlan = s.hostPlan := rfl
@[simp] theorem State.setStage_record (s : State) (v : Code) : (s.setStage v).record = s.record := rfl
@[simp] theorem State.setStage_meanS (s : State) (v : Code) : (s.setStage v).meanS = s.meanS := rfl
@[simp] theorem State.setStage_meanC (s : State) (v : Code) : (s.setStage v).meanC = s.meanC := rfl
@[simp] theorem State.setStage_plausS (s : State) (v : Code) : (s.setStage v).plausS = s.plausS := rfl
@[simp] theorem State.setStage_plausC (s : State) (v : Code) : (s.setStage v).plausC = s.plausC := rfl
@[simp] theorem State.setStage_cooling (s : State) (v : Code) : (s.setStage v).cooling = s.cooling := rfl
@[simp] theorem State.setStage_act (s : State) (v : Code) : (s.setStage v).act = s.act := rfl
@[simp] theorem State.setStage_lines (s : State) (v : Code) : (s.setStage v).lines = s.lines := rfl
@[simp] theorem State.setStage_trace (s : State) (v : Code) : (s.setStage v).trace = s.trace := rfl
@[simp] theorem State.setStage_stage (s : State) (v : Code) : (s.setStage v).stage = v := rfl

/-! ### `setRecord` -/

@[simp] theorem State.setRecord_cfg (s : State) (v : SampleRecord) : (s.setRecord v).cfg = s.cfg := rfl
@[simp] theorem State.setRecord_pins (s : State) (v : SampleRecord) : (s.setRecord v).pins = s.pins := rfl
@[simp] theorem State.setRecord_hostPlan (s : State) (v : SampleRecord) : (s.setRecord v).hostPlan = s.hostPlan := rfl
@[simp] theorem State.setRecord_record (s : State) (v : SampleRecord) : (s.setRecord v).record = v := rfl
@[simp] theorem State.setRecord_meanS (s : State) (v : SampleRecord) : (s.setRecord v).meanS = s.meanS := rfl
@[simp] theorem State.setRecord_meanC (s : State) (v : SampleRecord) : (s.setRecord v).meanC = s.meanC := rfl
@[simp] theorem State.setRecord_plausS (s : State) (v : SampleRecord) : (s.setRecord v).plausS = s.plausS := rfl
@[simp] theorem State.setRecord_plausC (s : State) (v : SampleRecord) : (s.setRecord v).plausC = s.plausC := rfl
@[simp] theorem State.setRecord_cooling (s : State) (v : SampleRecord) : (s.setRecord v).cooling = s.cooling := rfl
@[simp] theorem State.setRecord_act (s : State) (v : SampleRecord) : (s.setRecord v).act = s.act := rfl
@[simp] theorem State.setRecord_lines (s : State) (v : SampleRecord) : (s.setRecord v).lines = s.lines := rfl
@[simp] theorem State.setRecord_trace (s : State) (v : SampleRecord) : (s.setRecord v).trace = s.trace := rfl
@[simp] theorem State.setRecord_stage (s : State) (v : SampleRecord) : (s.setRecord v).stage = s.stage := rfl

/-! ### `setCooling` -/

@[simp] theorem State.setCooling_cfg (s : State) (v : Bool) : (s.setCooling v).cfg = s.cfg := rfl
@[simp] theorem State.setCooling_pins (s : State) (v : Bool) : (s.setCooling v).pins = s.pins := rfl
@[simp] theorem State.setCooling_hostPlan (s : State) (v : Bool) : (s.setCooling v).hostPlan = s.hostPlan := rfl
@[simp] theorem State.setCooling_record (s : State) (v : Bool) : (s.setCooling v).record = s.record := rfl
@[simp] theorem State.setCooling_meanS (s : State) (v : Bool) : (s.setCooling v).meanS = s.meanS := rfl
@[simp] theorem State.setCooling_meanC (s : State) (v : Bool) : (s.setCooling v).meanC = s.meanC := rfl
@[simp] theorem State.setCooling_plausS (s : State) (v : Bool) : (s.setCooling v).plausS = s.plausS := rfl
@[simp] theorem State.setCooling_plausC (s : State) (v : Bool) : (s.setCooling v).plausC = s.plausC := rfl
@[simp] theorem State.setCooling_cooling (s : State) (v : Bool) : (s.setCooling v).cooling = v := rfl
@[simp] theorem State.setCooling_act (s : State) (v : Bool) : (s.setCooling v).act = s.act := rfl
@[simp] theorem State.setCooling_lines (s : State) (v : Bool) : (s.setCooling v).lines = s.lines := rfl
@[simp] theorem State.setCooling_trace (s : State) (v : Bool) : (s.setCooling v).trace = s.trace := rfl
@[simp] theorem State.setCooling_stage (s : State) (v : Bool) : (s.setCooling v).stage = s.stage := rfl

/-! ### `setAct` -/

@[simp] theorem State.setAct_cfg (s : State) (v : ActState) : (s.setAct v).cfg = s.cfg := rfl
@[simp] theorem State.setAct_pins (s : State) (v : ActState) : (s.setAct v).pins = s.pins := rfl
@[simp] theorem State.setAct_hostPlan (s : State) (v : ActState) : (s.setAct v).hostPlan = s.hostPlan := rfl
@[simp] theorem State.setAct_record (s : State) (v : ActState) : (s.setAct v).record = s.record := rfl
@[simp] theorem State.setAct_meanS (s : State) (v : ActState) : (s.setAct v).meanS = s.meanS := rfl
@[simp] theorem State.setAct_meanC (s : State) (v : ActState) : (s.setAct v).meanC = s.meanC := rfl
@[simp] theorem State.setAct_plausS (s : State) (v : ActState) : (s.setAct v).plausS = s.plausS := rfl
@[simp] theorem State.setAct_plausC (s : State) (v : ActState) : (s.setAct v).plausC = s.plausC := rfl
@[simp] theorem State.setAct_cooling (s : State) (v : ActState) : (s.setAct v).cooling = s.cooling := rfl
@[simp] theorem State.setAct_act (s : State) (v : ActState) : (s.setAct v).act = v := rfl
@[simp] theorem State.setAct_lines (s : State) (v : ActState) : (s.setAct v).lines = s.lines := rfl
@[simp] theorem State.setAct_trace (s : State) (v : ActState) : (s.setAct v).trace = s.trace := rfl
@[simp] theorem State.setAct_stage (s : State) (v : ActState) : (s.setAct v).stage = s.stage := rfl

/-! ### `setLines` -/

@[simp] theorem State.setLines_cfg (s : State) (v : Lines) : (s.setLines v).cfg = s.cfg := rfl
@[simp] theorem State.setLines_pins (s : State) (v : Lines) : (s.setLines v).pins = s.pins := rfl
@[simp] theorem State.setLines_hostPlan (s : State) (v : Lines) : (s.setLines v).hostPlan = s.hostPlan := rfl
@[simp] theorem State.setLines_record (s : State) (v : Lines) : (s.setLines v).record = s.record := rfl
@[simp] theorem State.setLines_meanS (s : State) (v : Lines) : (s.setLines v).meanS = s.meanS := rfl
@[simp] theorem State.setLines_meanC (s : State) (v : Lines) : (s.setLines v).meanC = s.meanC := rfl
@[simp] theorem State.setLines_plausS (s : State) (v : Lines) : (s.setLines v).plausS = s.plausS := rfl
@[simp] theorem State.setLines_plausC (s : State) (v : Lines) : (s.setLines v).plausC = s.plausC := rfl
@[simp] theorem State.setLines_cooling (s : State) (v : Lines) : (s.setLines v).cooling = s.cooling := rfl
@[simp] theorem State.setLines_act (s : State) (v : Lines) : (s.setLines v).act = s.act := rfl
@[simp] theorem State.setLines_lines (s : State) (v : Lines) : (s.setLines v).lines = v := rfl
@[simp] theorem State.setLines_trace (s : State) (v : Lines) : (s.setLines v).trace = s.trace := rfl
@[simp] theorem State.setLines_stage (s : State) (v : Lines) : (s.setLines v).stage = s.stage := rfl

/-! ### `setTrace` -/

@[simp] theorem State.setTrace_cfg (s : State) (v : TracePorts) : (s.setTrace v).cfg = s.cfg := rfl
@[simp] theorem State.setTrace_pins (s : State) (v : TracePorts) : (s.setTrace v).pins = s.pins := rfl
@[simp] theorem State.setTrace_hostPlan (s : State) (v : TracePorts) : (s.setTrace v).hostPlan = s.hostPlan := rfl
@[simp] theorem State.setTrace_record (s : State) (v : TracePorts) : (s.setTrace v).record = s.record := rfl
@[simp] theorem State.setTrace_meanS (s : State) (v : TracePorts) : (s.setTrace v).meanS = s.meanS := rfl
@[simp] theorem State.setTrace_meanC (s : State) (v : TracePorts) : (s.setTrace v).meanC = s.meanC := rfl
@[simp] theorem State.setTrace_plausS (s : State) (v : TracePorts) : (s.setTrace v).plausS = s.plausS := rfl
@[simp] theorem State.setTrace_plausC (s : State) (v : TracePorts) : (s.setTrace v).plausC = s.plausC := rfl
@[simp] theorem State.setTrace_cooling (s : State) (v : TracePorts) : (s.setTrace v).cooling = s.cooling := rfl
@[simp] theorem State.setTrace_act (s : State) (v : TracePorts) : (s.setTrace v).act = s.act := rfl
@[simp] theorem State.setTrace_lines (s : State) (v : TracePorts) : (s.setTrace v).lines = s.lines := rfl
@[simp] theorem State.setTrace_trace (s : State) (v : TracePorts) : (s.setTrace v).trace = v := rfl
@[simp] theorem State.setTrace_stage (s : State) (v : TracePorts) : (s.setTrace v).stage = s.stage := rfl

/-! ### `setPins` -/

@[simp] theorem State.setPins_cfg (s : State) (v : Pins) : (s.setPins v).cfg = s.cfg := rfl
@[simp] theorem State.setPins_pins (s : State) (v : Pins) : (s.setPins v).pins = v := rfl
@[simp] theorem State.setPins_hostPlan (s : State) (v : Pins) : (s.setPins v).hostPlan = s.hostPlan := rfl
@[simp] theorem State.setPins_record (s : State) (v : Pins) : (s.setPins v).record = s.record := rfl
@[simp] theorem State.setPins_meanS (s : State) (v : Pins) : (s.setPins v).meanS = s.meanS := rfl
@[simp] theorem State.setPins_meanC (s : State) (v : Pins) : (s.setPins v).meanC = s.meanC := rfl
@[simp] theorem State.setPins_plausS (s : State) (v : Pins) : (s.setPins v).plausS = s.plausS := rfl
@[simp] theorem State.setPins_plausC (s : State) (v : Pins) : (s.setPins v).plausC = s.plausC := rfl
@[simp] theorem State.setPins_cooling (s : State) (v : Pins) : (s.setPins v).cooling = s.cooling := rfl
@[simp] theorem State.setPins_act (s : State) (v : Pins) : (s.setPins v).act = s.act := rfl
@[simp] theorem State.setPins_lines (s : State) (v : Pins) : (s.setPins v).lines = s.lines := rfl
@[simp] theorem State.setPins_trace (s : State) (v : Pins) : (s.setPins v).trace = s.trace := rfl
@[simp] theorem State.setPins_stage (s : State) (v : Pins) : (s.setPins v).stage = s.stage := rfl

/-! ### `setPlan` -/

@[simp] theorem State.setPlan_cfg (s : State) (v : List Pins) : (s.setPlan v).cfg = s.cfg := rfl
@[simp] theorem State.setPlan_pins (s : State) (v : List Pins) : (s.setPlan v).pins = s.pins := rfl
@[simp] theorem State.setPlan_hostPlan (s : State) (v : List Pins) : (s.setPlan v).hostPlan = v := rfl
@[simp] theorem State.setPlan_record (s : State) (v : List Pins) : (s.setPlan v).record = s.record := rfl
@[simp] theorem State.setPlan_meanS (s : State) (v : List Pins) : (s.setPlan v).meanS = s.meanS := rfl
@[simp] theorem State.setPlan_meanC (s : State) (v : List Pins) : (s.setPlan v).meanC = s.meanC := rfl
@[simp] theorem State.setPlan_plausS (s : State) (v : List Pins) : (s.setPlan v).plausS = s.plausS := rfl
@[simp] theorem State.setPlan_plausC (s : State) (v : List Pins) : (s.setPlan v).plausC = s.plausC := rfl
@[simp] theorem State.setPlan_cooling (s : State) (v : List Pins) : (s.setPlan v).cooling = s.cooling := rfl
@[simp] theorem State.setPlan_act (s : State) (v : List Pins) : (s.setPlan v).act = s.act := rfl
@[simp] theorem State.setPlan_lines (s : State) (v : List Pins) : (s.setPlan v).lines = s.lines := rfl
@[simp] theorem State.setPlan_trace (s : State) (v : List Pins) : (s.setPlan v).trace = s.trace := rfl
@[simp] theorem State.setPlan_stage (s : State) (v : List Pins) : (s.setPlan v).stage = s.stage := rfl

/-! ### `setMean` -/

@[simp] theorem State.setMean_cfg (s : State) (c : Channel) (v : MeanState) : (s.setMean c v).cfg = s.cfg := by cases c <;> rfl
@[simp] theorem State.setMean_pins (s : State) (c : Channel) (v : MeanState) : (s.setMean c v).pins = s.pins := by cases c <;> rfl
@[simp] theorem State.setMean_hostPlan (s : State) (c : Channel) (v : MeanState) : (s.setMean c v).hostPlan = s.hostPlan := by cases c <;> rfl
@[simp] theorem State.setMean_record (s : State) (c : Channel) (v : MeanState) : (s.setMean c v).record = s.record := by cases c <;> rfl
@[simp] theorem State.setMean_plausS (s : State) (c : Channel) (v : MeanState) : (s.setMean c v).plausS = s.plausS := by cases c <;> rfl
@[simp] theorem State.setMean_plausC (s : State) (c : Channel) (v : MeanState) : (s.setMean c v).plausC = s.plausC := by cases c <;> rfl
@[simp] theorem State.setMean_cooling (s : State) (c : Channel) (v : MeanState) : (s.setMean c v).cooling = s.cooling := by cases c <;> rfl
@[simp] theorem State.setMean_act (s : State) (c : Channel) (v : MeanState) : (s.setMean c v).act = s.act := by cases c <;> rfl
@[simp] theorem State.setMean_lines (s : State) (c : Channel) (v : MeanState) : (s.setMean c v).lines = s.lines := by cases c <;> rfl
@[simp] theorem State.setMean_trace (s : State) (c : Channel) (v : MeanState) : (s.setMean c v).trace = s.trace := by cases c <;> rfl
@[simp] theorem State.setMean_stage (s : State) (c : Channel) (v : MeanState) : (s.setMean c v).stage = s.stage := by cases c <;> rfl
@[simp] theorem State.setMean_S_meanS (s : State) (v : MeanState) : (s.setMean .S v).meanS = v := rfl
@[simp] theorem State.setMean_S_meanC (s : State) (v : MeanState) : (s.setMean .S v).meanC = s.meanC := rfl
@[simp] theorem State.setMean_C_meanS (s : State) (v : MeanState) : (s.setMean .C v).meanS = s.meanS := rfl
@[simp] theorem State.setMean_C_meanC (s : State) (v : MeanState) : (s.setMean .C v).meanC = v := rfl

/-! ### `setPlaus` -/

@[simp] theorem State.setPlaus_cfg (s : State) (c : Channel) (v : PlausState) : (s.setPlaus c v).cfg = s.cfg := by cases c <;> rfl
@[simp] theorem State.setPlaus_pins (s : State) (c : Channel) (v : PlausState) : (s.setPlaus c v).pins = s.pins := by cases c <;> rfl
@[simp] theorem State.setPlaus_hostPlan (s : State) (c : Channel) (v : PlausState) : (s.setPlaus c v).hostPlan = s.hostPlan := by cases c <;> rfl
@[simp] theorem State.setPlaus_record (s : State) (c : Channel) (v : PlausState) : (s.setPlaus c v).record = s.record := by cases c <;> rfl
@[simp] theorem State.setPlaus_meanS (s : State) (c : Channel) (v : PlausState) : (s.setPlaus c v).meanS = s.meanS := by cases c <;> rfl
@[simp] theorem State.setPlaus_meanC (s : State) (c : Channel) (v : PlausState) : (s.setPlaus c v).meanC = s.meanC := by cases c <;> rfl
@[simp] theorem State.setPlaus_cooling (s : State) (c : Channel) (v : PlausState) : (s.setPlaus c v).cooling = s.cooling := by cases c <;> rfl
@[simp] theorem State.setPlaus_act (s : State) (c : Channel) (v : PlausState) : (s.setPlaus c v).act = s.act := by cases c <;> rfl
@[simp] theorem State.setPlaus_lines (s : State) (c : Channel) (v : PlausState) : (s.setPlaus c v).lines = s.lines := by cases c <;> rfl
@[simp] theorem State.setPlaus_trace (s : State) (c : Channel) (v : PlausState) : (s.setPlaus c v).trace = s.trace := by cases c <;> rfl
@[simp] theorem State.setPlaus_stage (s : State) (c : Channel) (v : PlausState) : (s.setPlaus c v).stage = s.stage := by cases c <;> rfl
@[simp] theorem State.setPlaus_S_plausS (s : State) (v : PlausState) : (s.setPlaus .S v).plausS = v := rfl
@[simp] theorem State.setPlaus_S_plausC (s : State) (v : PlausState) : (s.setPlaus .S v).plausC = s.plausC := rfl
@[simp] theorem State.setPlaus_C_plausS (s : State) (v : PlausState) : (s.setPlaus .C v).plausS = s.plausS := rfl
@[simp] theorem State.setPlaus_C_plausC (s : State) (v : PlausState) : (s.setPlaus .C v).plausC = v := rfl

/-! ### `setRaw`, a field of the record by channel -/

@[simp] theorem State.setRaw_cfg (s : State) (c : Channel) (w : Word) : (s.setRaw c w).cfg = s.cfg := by cases c <;> rfl
@[simp] theorem State.setRaw_pins (s : State) (c : Channel) (w : Word) : (s.setRaw c w).pins = s.pins := by cases c <;> rfl
@[simp] theorem State.setRaw_hostPlan (s : State) (c : Channel) (w : Word) : (s.setRaw c w).hostPlan = s.hostPlan := by cases c <;> rfl
@[simp] theorem State.setRaw_meanS (s : State) (c : Channel) (w : Word) : (s.setRaw c w).meanS = s.meanS := by cases c <;> rfl
@[simp] theorem State.setRaw_meanC (s : State) (c : Channel) (w : Word) : (s.setRaw c w).meanC = s.meanC := by cases c <;> rfl
@[simp] theorem State.setRaw_plausS (s : State) (c : Channel) (w : Word) : (s.setRaw c w).plausS = s.plausS := by cases c <;> rfl
@[simp] theorem State.setRaw_plausC (s : State) (c : Channel) (w : Word) : (s.setRaw c w).plausC = s.plausC := by cases c <;> rfl
@[simp] theorem State.setRaw_cooling (s : State) (c : Channel) (w : Word) : (s.setRaw c w).cooling = s.cooling := by cases c <;> rfl
@[simp] theorem State.setRaw_act (s : State) (c : Channel) (w : Word) : (s.setRaw c w).act = s.act := by cases c <;> rfl
@[simp] theorem State.setRaw_lines (s : State) (c : Channel) (w : Word) : (s.setRaw c w).lines = s.lines := by cases c <;> rfl
@[simp] theorem State.setRaw_trace (s : State) (c : Channel) (w : Word) : (s.setRaw c w).trace = s.trace := by cases c <;> rfl
@[simp] theorem State.setRaw_stage (s : State) (c : Channel) (w : Word) : (s.setRaw c w).stage = s.stage := by cases c <;> rfl
@[simp] theorem State.setRaw_S_record (s : State) (w : Word) : (s.setRaw .S w).record = { s.record with setRaw := w } := rfl
@[simp] theorem State.setRaw_C_record (s : State) (w : Word) : (s.setRaw .C w).record = { s.record with curRaw := w } := rfl

/-! ### `setClip`, a field of the record by channel -/

@[simp] theorem State.setClip_cfg (s : State) (c : Channel) (w : Word) : (s.setClip c w).cfg = s.cfg := by cases c <;> rfl
@[simp] theorem State.setClip_pins (s : State) (c : Channel) (w : Word) : (s.setClip c w).pins = s.pins := by cases c <;> rfl
@[simp] theorem State.setClip_hostPlan (s : State) (c : Channel) (w : Word) : (s.setClip c w).hostPlan = s.hostPlan := by cases c <;> rfl
@[simp] theorem State.setClip_meanS (s : State) (c : Channel) (w : Word) : (s.setClip c w).meanS = s.meanS := by cases c <;> rfl
@[simp] theorem State.setClip_meanC (s : State) (c : Channel) (w : Word) : (s.setClip c w).meanC = s.meanC := by cases c <;> rfl
@[simp] theorem State.setClip_plausS (s : State) (c : Channel) (w : Word) : (s.setClip c w).plausS = s.plausS := by cases c <;> rfl
@[simp] theorem State.setClip_plausC (s : State) (c : Channel) (w : Word) : (s.setClip c w).plausC = s.plausC := by cases c <;> rfl
@[simp] theorem State.setClip_cooling (s : State) (c : Channel) (w : Word) : (s.setClip c w).cooling = s.cooling := by cases c <;> rfl
@[simp] theorem State.setClip_act (s : State) (c : Channel) (w : Word) : (s.setClip c w).act = s.act := by cases c <;> rfl
@[simp] theorem State.setClip_lines (s : State) (c : Channel) (w : Word) : (s.setClip c w).lines = s.lines := by cases c <;> rfl
@[simp] theorem State.setClip_trace (s : State) (c : Channel) (w : Word) : (s.setClip c w).trace = s.trace := by cases c <;> rfl
@[simp] theorem State.setClip_stage (s : State) (c : Channel) (w : Word) : (s.setClip c w).stage = s.stage := by cases c <;> rfl
@[simp] theorem State.setClip_S_record (s : State) (w : Word) : (s.setClip .S w).record = { s.record with setClip := w } := rfl
@[simp] theorem State.setClip_C_record (s : State) (w : Word) : (s.setClip .C w).record = { s.record with curClip := w } := rfl

/-! ### `setMdeg`, a field of the record by channel -/

@[simp] theorem State.setMdeg_cfg (s : State) (c : Channel) (w : Word) : (s.setMdeg c w).cfg = s.cfg := by cases c <;> rfl
@[simp] theorem State.setMdeg_pins (s : State) (c : Channel) (w : Word) : (s.setMdeg c w).pins = s.pins := by cases c <;> rfl
@[simp] theorem State.setMdeg_hostPlan (s : State) (c : Channel) (w : Word) : (s.setMdeg c w).hostPlan = s.hostPlan := by cases c <;> rfl
@[simp] theorem State.setMdeg_meanS (s : State) (c : Channel) (w : Word) : (s.setMdeg c w).meanS = s.meanS := by cases c <;> rfl
@[simp] theorem State.setMdeg_meanC (s : State) (c : Channel) (w : Word) : (s.setMdeg c w).meanC = s.meanC := by cases c <;> rfl
@[simp] theorem State.setMdeg_plausS (s : State) (c : Channel) (w : Word) : (s.setMdeg c w).plausS = s.plausS := by cases c <;> rfl
@[simp] theorem State.setMdeg_plausC (s : State) (c : Channel) (w : Word) : (s.setMdeg c w).plausC = s.plausC := by cases c <;> rfl
@[simp] theorem State.setMdeg_cooling (s : State) (c : Channel) (w : Word) : (s.setMdeg c w).cooling = s.cooling := by cases c <;> rfl
@[simp] theorem State.setMdeg_act (s : State) (c : Channel) (w : Word) : (s.setMdeg c w).act = s.act := by cases c <;> rfl
@[simp] theorem State.setMdeg_lines (s : State) (c : Channel) (w : Word) : (s.setMdeg c w).lines = s.lines := by cases c <;> rfl
@[simp] theorem State.setMdeg_trace (s : State) (c : Channel) (w : Word) : (s.setMdeg c w).trace = s.trace := by cases c <;> rfl
@[simp] theorem State.setMdeg_stage (s : State) (c : Channel) (w : Word) : (s.setMdeg c w).stage = s.stage := by cases c <;> rfl
@[simp] theorem State.setMdeg_S_record (s : State) (w : Word) : (s.setMdeg .S w).record = { s.record with setMdeg := w } := rfl
@[simp] theorem State.setMdeg_C_record (s : State) (w : Word) : (s.setMdeg .C w).record = { s.record with curMdeg := w } := rfl

/-! ### `setComp` -/

@[simp] theorem State.setComp_cfg (s : State) (b : Bool) : (s.setComp b).cfg = s.cfg := rfl
@[simp] theorem State.setComp_pins (s : State) (b : Bool) : (s.setComp b).pins = s.pins := rfl
@[simp] theorem State.setComp_hostPlan (s : State) (b : Bool) : (s.setComp b).hostPlan = s.hostPlan := rfl
@[simp] theorem State.setComp_record (s : State) (b : Bool) : (s.setComp b).record = { s.record with comp := b } := rfl
@[simp] theorem State.setComp_meanS (s : State) (b : Bool) : (s.setComp b).meanS = s.meanS := rfl
@[simp] theorem State.setComp_meanC (s : State) (b : Bool) : (s.setComp b).meanC = s.meanC := rfl
@[simp] theorem State.setComp_plausS (s : State) (b : Bool) : (s.setComp b).plausS = s.plausS := rfl
@[simp] theorem State.setComp_plausC (s : State) (b : Bool) : (s.setComp b).plausC = s.plausC := rfl
@[simp] theorem State.setComp_cooling (s : State) (b : Bool) : (s.setComp b).cooling = s.cooling := rfl
@[simp] theorem State.setComp_act (s : State) (b : Bool) : (s.setComp b).act = s.act := rfl
@[simp] theorem State.setComp_lines (s : State) (b : Bool) : (s.setComp b).lines = s.lines := rfl
@[simp] theorem State.setComp_trace (s : State) (b : Bool) : (s.setComp b).trace = s.trace := rfl
@[simp] theorem State.setComp_stage (s : State) (b : Bool) : (s.setComp b).stage = s.stage := rfl

end Sys2Proof.Machine
end

