-- ==== Sys2Proof/Laws/Ops.lean ====
section
/-! SUPPORT. Everything each shared operation can do, said once. -/

namespace Sys2Proof.Machine

/-! ### `onInstance` and `stageOp` -/

theorem onInstance_valid {s : State} (h : cfgCheck s.cfg = none) (k : Host.Outcome State Fault Refusal) :
    onInstance s k = k := by
  simp [onInstance, h]

theorem onInstance_invalid {s : State} {r : ConfigReason} (h : cfgCheck s.cfg = some r)
    (k : Host.Outcome State Fault Refusal) : onInstance s k = .refused (.invalidConfig r) := by
  simp [onInstance, h]

theorem onInstance_next {s t : State} {k : Host.Outcome State Fault Refusal} (h : onInstance s k = .next t) :
    cfgCheck s.cfg = none ∧ k = .next t := by
  unfold onInstance at h
  split at h
  · cases h
  · exact ⟨‹_›, h⟩

theorem stageOp_valid {s : State} (h : cfgCheck s.cfg = none) (op : Instr) (f : State → State) :
    stageOp op f s = .next ((f s).advance op) := onInstance_valid h _

theorem stageOp_next {op : Instr} {f : State → State} {s t : State} (h : stageOp op f s = .next t) :
    cfgCheck s.cfg = none ∧ t = (f s).advance op := by
  obtain ⟨hc, he⟩ := onInstance_next h
  cases he
  exact ⟨hc, rfl⟩

/-- `advance` writes `seq.stage` and nothing else. -/
theorem advance_eq (op : Instr) (s : State) : s.advance op =
    { s with stage := encode (nextStage s.cfg.filterOrder s.pins.tick op) } := rfl

/-! ### `mapNext` -/

theorem mapNext_next {f : State → State} {o : Host.Outcome State Fault Refusal} {t : State}
    (h : mapNext f o = .next t) : ∃ u, o = .next u ∧ t = f u := by
  cases o with
  | next u => cases h; exact ⟨u, rfl, rfl⟩
  | fault r => cases h
  | refused r => cases h

@[simp] theorem mapNext_of_next (f : State → State) (u : State) : mapNext f (.next u) = .next (f u) := rfl

@[simp] theorem andThen_of_next (u : State) (k : State → Host.Outcome State Fault Refusal) :
    andThen (.next u) k = k u := rfl

theorem andThen_next {o : Host.Outcome State Fault Refusal} {k : State → Host.Outcome State Fault Refusal} {t : State}
    (h : andThen o k = .next t) : ∃ u, o = .next u ∧ k u = .next t := by
  cases o with
  | next u => exact ⟨u, rfl, h⟩
  | fault r => cases h
  | refused r => cases h

/-! ### The host's side -/

@[simp] theorem hostNext_nil {s : State} (h : s.hostPlan = []) : hostNext s = s := by simp [hostNext, h]

@[simp] theorem hostNext_cons {s : State} {p : Pins} {l : List Pins} (h : s.hostPlan = p :: l) :
    hostNext s = { s with pins := p, hostPlan := l } := by
  simp [hostNext, h]
  rfl

/-- `hostNext` writes the input levels and the plan, and nothing else. -/
theorem hostNext_eq (s : State) :
    hostNext s = { s with pins := (hostNext s).pins, hostPlan := (hostNext s).hostPlan } := by
  unfold hostNext
  split <;> rfl

/-! ### Reset and the cycle -/

/-- `applyReset` keeps the configuration and the host's side and puts everything else at 10_state.md R42. -/
theorem applyReset_eq (s : State) : applyReset s =
    { State.resetOf s.cfg with pins := s.pins, hostPlan := s.hostPlan } := rfl

/-- `strobeFall` writes `trace_valid_o` and nothing else. -/
theorem strobeFall_eq (s : State) : strobeFall s = { s with trace := { s.trace with valid := false } } := rfl

/-- Everything a cycle that answers a next state did. -/
theorem cycle_next {ex : Instr → State → Host.Outcome State Fault Refusal} {s t : State}
    (h : cycle ex s = .next t) : cfgCheck s.cfg = none ∧
      ((s.pins.rst = true ∧ t = hostNext (applyReset s)) ∨
       (s.pins.rst = false ∧ ∃ i u, fetch s = .ok i ∧ ex i (strobeFall s) = .next u ∧ t = hostNext u)) := by
  obtain ⟨hc, hk⟩ := onInstance_next h
  refine ⟨hc, ?_⟩
  split at hk
  · cases hk
    exact .inl ⟨‹_›, rfl⟩
  · rename_i hr
    refine .inr ⟨by simpa using hr, ?_⟩
    split at hk
    · cases hk
    · obtain ⟨u, hu, rfl⟩ := mapNext_next hk
      exact ⟨_, u, ‹_›, hu, rfl⟩

theorem cycle_run {ex : Instr → State → Host.Outcome State Fault Refusal} {s : State} {i : Instr}
    (hc : cfgCheck s.cfg = none) (hr : s.pins.rst = false) (hf : fetch s = .ok i) :
    cycle ex s = mapNext hostNext (ex i (strobeFall s)) := by
  simp [cycle, onInstance_valid hc, hr, hf]

theorem cycle_reset {ex : Instr → State → Host.Outcome State Fault Refusal} {s : State}
    (hc : cfgCheck s.cfg = none) (hr : s.pins.rst = true) : cycle ex s = .next (hostNext (applyReset s)) := by
  simp [cycle, onInstance_valid hc, hr]

theorem placeCode_eq (s : State) (w : Nat) : placeCode s w =
    { s with stage := BitVec.ofNat 4 w, pins := { s.pins with rst := false } } := rfl

/-! ### Construction -/

theorem construct_next {r : RawConfig} {s : State} (h : construct r = .next s) :
    rawCheck r = none ∧ s = State.resetOf (rawCfg r) := by
  unfold construct at h
  split at h
  · cases h
  · cases h
    exact ⟨‹_›, rfl⟩

end Sys2Proof.Machine
end

