-- ==== Sys2Proof/Laws/Meanings.lean ====
section
/-! SUPPORT. The meaning of every operation on an instance, as its effect followed by the next stage. -/

namespace Sys2Proof.Machine

theorem execMapC_fits {s : State} (h : fitsWord (mapCur s.record.curClip.toInt) = true) :
    execMapC s = stageOp .mapC mapSensor s := if_pos h

theorem execMapC_refuses {s : State} (hc : cfgCheck s.cfg = none)
    (h : fitsWord (mapCur s.record.curClip.toInt) = false) :
    execMapC s = .refused (.temperatureDoesNotFit s.record.curClip) := by
  unfold execMapC
  rw [if_neg (by simpa [clipOf] using h)]
  exact onInstance_valid hc _

/-- The effect of an operation, its next stage apart. -/
def effect : Instr → State → State
  | .idle => id
  | .acq => acquire
  | .clipS => clipChannel .S
  | .clipC => clipChannel .C
  | .plausS => plausChannel .S
  | .plausC => plausChannel .C
  | .meanS => meanChannel .S
  | .meanC => meanChannel .C
  | .mapS => mapSetpoint
  | .mapC => mapSensor
  | .ctrl => regulate
  | .act => actuate
  | .trace => present

/-- If an operation answers a next state, it is its effect followed by the next stage. -/
theorem exec_next {i : Instr} {s t : State} (h : exec i s = .next t) :
    cfgCheck s.cfg = none ∧ t = (effect i s).advance i := by
  cases i
  case mapC =>
    change execMapC s = .next t at h
    unfold execMapC at h
    split at h
    · exact stageOp_next h
    · obtain ⟨_, h'⟩ := onInstance_next h
      cases h'
  all_goals exact stageOp_next h

/-- Every operation but MAP.C answers a next state on an instance. -/
theorem exec_valid {i : Instr} {s : State} (hc : cfgCheck s.cfg = none) (hi : i ≠ .mapC) :
    exec i s = .next ((effect i s).advance i) := by
  cases i
  case mapC => exact absurd rfl hi
  all_goals exact stageOp_valid hc _ _

/-- MAP.C answers a next state on an instance where the temperature fits. -/
theorem exec_mapC_valid {s : State} (hc : cfgCheck s.cfg = none)
    (hf : fitsWord (mapCur s.record.curClip.toInt) = true) :
    exec .mapC s = .next ((mapSensor s).advance .mapC) := by
  change execMapC s = _
  rw [execMapC_fits hf]
  exact stageOp_valid hc _ _

/-- No operation and no step answers a fault (60_exceptions.md R230). -/
theorem step_no_fault (s : State) (r : Fault) : step s ≠ .fault r := by cases r

end Sys2Proof.Machine
end

