-- ==== Sys2Proof/Laws/PerInstr.lean ====
section
/-! SUPPORT. Statements about every operation as syntax, one lemma per constructor. -/

namespace Sys2Proof.Laws.AssignedCode

/-- The operation is well formed and its code is one the map assigns (30_encoding.md R83, R86). -/
def Statement (i : Instr) : Prop := i.wellFormed = true ∧ codeAssigned (encode i) = true

theorem idle : Statement .idle := ⟨rfl, rfl⟩
theorem acq : Statement .acq := ⟨rfl, rfl⟩
theorem clipS : Statement .clipS := ⟨rfl, rfl⟩
theorem clipC : Statement .clipC := ⟨rfl, rfl⟩
theorem plausS : Statement .plausS := ⟨rfl, rfl⟩
theorem plausC : Statement .plausC := ⟨rfl, rfl⟩
theorem meanS : Statement .meanS := ⟨rfl, rfl⟩
theorem meanC : Statement .meanC := ⟨rfl, rfl⟩
theorem mapS : Statement .mapS := ⟨rfl, rfl⟩
theorem mapC : Statement .mapC := ⟨rfl, rfl⟩
theorem ctrl : Statement .ctrl := ⟨rfl, rfl⟩
theorem act : Statement .act := ⟨rfl, rfl⟩
theorem trace : Statement .trace := ⟨rfl, rfl⟩

end Sys2Proof.Laws.AssignedCode
end

