-- ==== Sys2Proof/Laws/Run.lean ====
section
/-! SUPPORT. Runs of the machine, one step at a time, and what an atomic tick writes. -/

namespace Sys2Proof.Machine

@[simp] theorem run_zero (s : State) : run 0 s = .next s := rfl

/-- A run goes on from a next state. -/
theorem run_succ {s t : State} (h : step s = .next t) (k : Nat) : run (k + 1) s = run k t := by
  have h' : Sys2Proof.core.step s = .next t := h
  refine (Host.Core.run.eq_2 Sys2Proof.core s k).trans ?_
  rw [h']

/-- A run stops at a refusal. -/
theorem run_succ_refused {s : State} {r : Refusal} (h : step s = .refused r) (k : Nat) :
    run (k + 1) s = .refused r := by
  have h' : Sys2Proof.core.step s = .refused r := h
  refine (Host.Core.run.eq_2 Sys2Proof.core s k).trans ?_
  rw [h']
  rfl

/-- A run of at least one step that answers a next state began with a step that did. -/
theorem run_succ_next {k : Nat} {s u : State} (h : run (k + 1) s = .next u) :
    ∃ t, step s = .next t ∧ run k t = .next u := by
  cases hs : step s with
  | next t => exact ⟨t, rfl, by rw [← run_succ hs]; exact h⟩
  | fault r => exact absurd hs (step_no_fault s r)
  | refused r =>
    rw [run_succ_refused hs] at h
    cases h

/-- A run in two parts. -/
theorem run_add {j k : Nat} {s t : State} (h : run j s = .next t) : run (j + k) s = run k t := by
  induction j generalizing s with
  | zero => cases h; rw [Nat.zero_add]
  | succ j ih =>
    obtain ⟨u, hu, hr⟩ := run_succ_next h
    rw [Nat.succ_add, run_succ hu, ih hr]

/-! ### The atomic tick -/

@[simp] theorem afterTick_cfg (s : State) (x : Stimulus) : (afterTick s x).cfg = s.cfg := rfl
@[simp] theorem afterTick_pins (s : State) (x : Stimulus) : (afterTick s x).pins = s.pins := rfl
@[simp] theorem afterTick_hostPlan (s : State) (x : Stimulus) : (afterTick s x).hostPlan = s.hostPlan := rfl
@[simp] theorem afterTick_stage (s : State) (x : Stimulus) : (afterTick s x).stage = encode .idle := rfl

/-- The lines and the indicator after a tick, from its command and the count before it. -/
theorem afterTick_act (s : State) (x : Stimulus) :
    (afterTick s x).lines = { comp := (afterTick s x).cooling, led := (afterTick s x).act.ledPhase } ∧
    (afterTick s x).act =
      { ledPhase := ledNextPhase s.act.ledCnt.toNat (dutyDivisor (afterTick s x).cooling (idleDivOf s)) s.act.ledPhase
        ledCnt := BitVec.ofNat 16 ((s.act.ledCnt.toNat + 1) % cntModOf s) } := ⟨rfl, rfl⟩

/-- When the atomic tick answers a next state, and which. -/
theorem tick_next_iff {s t : State} {x : Stimulus} : tick s x = .next t ↔
    cfgCheck s.cfg = none ∧ s.stage = encode .idle ∧
    fitsWord (mapCur (condition s .C (clip x.cur.toInt clipMin clipMax)).2.2) = true ∧ t = afterTick s x := by
  constructor
  · intro h
    obtain ⟨hc, h⟩ := onInstance_next h
    split at h
    · split at h
      · cases h
        exact ⟨hc, ‹_›, ‹_›, rfl⟩
      · cases h
    · cases h
  · rintro ⟨hc, hs, hf, rfl⟩
    simp [tick, onInstance_valid hc, hs, hf]

theorem tick_next {s : State} {x : Stimulus} (hc : cfgCheck s.cfg = none) (hs : s.stage = encode .idle)
    (hf : fitsWord (mapCur (condition s .C (clip x.cur.toInt clipMin clipMax)).2.2) = true) :
    tick s x = .next (afterTick s x) := tick_next_iff.2 ⟨hc, hs, hf, rfl⟩

/-- One more tick before a list. -/
@[simp] theorem ticks_cons (x : Stimulus) (xs : List Stimulus) (s : State) :
    ticks (x :: xs) s = andThen (tick s x) (ticks xs) := rfl

/-- A list of lines in two parts. -/
theorem actionSteps_append (l m : List Action) (s : State) :
    actionSteps (l ++ m) s = andThen (actionSteps l s) (actionSteps m) := by
  induction l generalizing s with
  | nil => rfl
  | cons a l ih =>
    simp only [List.cons_append, actionSteps]
    cases actionStep s a with
    | next u => exact ih u
    | fault r => rfl
    | refused r => rfl

/-- Whether an outcome is a next state. -/
def isNext : Host.Outcome State Fault Refusal → Bool
  | .next _ => true
  | .fault _ => false
  | .refused _ => false

theorem isNext_iff {o : Host.Outcome State Fault Refusal} : isNext o = true ↔ ∃ t, o = .next t := by
  cases o <;> simp [isNext]

/-- The states of a list of ticks, as far as it goes. -/
def trail (s : State) (xs : List Stimulus) (k : Nat) : State :=
  match ticks (xs.take k) s with
  | .next t => t
  | .fault _ => s
  | .refused _ => s

/-- A list of ticks that answers a next state answers one after each of them. -/
theorem tickRun_trail {s : State} {xs : List Stimulus} (h : isNext (ticks xs s) = true) : TickRun xs (trail s xs) := by
  obtain ⟨t, ht⟩ := isNext_iff.1 h
  have part : ∀ k, ∃ u, ticks (xs.take k) s = .next u ∧ ticks (xs.drop k) u = .next t := by
    intro k
    rw [ticks, ← List.take_append_drop k xs, List.map_append, actionSteps_append] at ht
    exact andThen_next ht
  intro k hk
  obtain ⟨u, hu, hd⟩ := part k
  obtain ⟨v, hv, _⟩ := part (k + 1)
  rw [List.drop_eq_getElem_cons hk, ticks_cons] at hd
  obtain ⟨w, hw, _⟩ := andThen_next hd
  have e : ticks (xs.take (k + 1)) s = .next w := by
    rw [List.take_succ_eq_append_getElem hk, ticks, List.map_append, actionSteps_append]
    rw [show actionSteps (List.map Action.tick (xs.take k)) s = .next u from hu]
    simp [actionSteps, actionStep, hw]
  simp only [trail, hu, e]
  exact hw

/-! ### The end of a test program -/

/-- What is cut off is RESET lines, and what stays ends in a TICK or is empty. -/
theorem throughLastTick_append (l : List Action) (x : Stimulus) (n : Nat) :
    throughLastTick (l ++ .tick x :: List.replicate n .reset) = l ++ [.tick x] := by
  have tail : throughLastTick (List.replicate n .reset) = [] := by
    induction n with
    | zero => rfl
    | succ n ih => simp [List.replicate_succ, throughLastTick, ih]
  induction l with
  | nil => simp [throughLastTick, tail]
  | cons a l ih =>
    cases a with
    | tick y => simp [throughLastTick, ih]
    | reset =>
      rw [List.cons_append, throughLastTick, ih]
      cases l <;> rfl

end Sys2Proof.Machine
end

