-- ==== Sys2Proof/Tests/Slice0.lean ====
section
/-! SUPPORT. Tests. Expected values are those the spec prints: the stage-code map of 30_encoding.md R83, the worked
examples of the operation rules, and the boundary values they name. The `witness_` theorems show states and operands
that meet the hypotheses of the statements of the same name. -/

open Sys2Proof
open Sys2Proof.Machine

namespace Sys2Proof.Tests

/-! ### Decoding, by the words of 30_encoding.md R83 -/

theorem test_decode_sequencer : decode 0b0000 = .ok .idle ∧ decode 0b0001 = .ok .acq := by decide
theorem test_decode_clip : decode 0b0010 = .ok .clipS ∧ decode 0b0011 = .ok .clipC := by decide
theorem test_decode_plausibility_filter : decode 0b0100 = .ok .plausS ∧ decode 0b0101 = .ok .plausC := by decide
theorem test_decode_mean_filter : decode 0b0110 = .ok .meanS ∧ decode 0b0111 = .ok .meanC := by decide
theorem test_decode_mapping : decode 0b1000 = .ok .mapS ∧ decode 0b1001 = .ok .mapC := by decide
theorem test_decode_control_and_actuation : decode 0b1010 = .ok .ctrl ∧ decode 0b1011 = .ok .act := by decide
theorem test_decode_trace : decode 0b1100 = .ok .trace := by decide
theorem test_decode_reserved_rejected : decode 0b1101 = .error (.reservedCode 0b1101) ∧
    decode 0b1110 = .error (.reservedCode 0b1110) ∧ decode 0b1111 = .error (.reservedCode 0b1111) := by decide
theorem test_code_fields : codeUnit 0b0101 = 0b010 ∧ codeSel 0b0101 = 1 := by decide
/-- The first example of 30_encoding.md R88. -/
theorem test_stimulus_word : encodeStimulus { set := 400, cur := 150 } = 0x0000009600000190#64 := by decide
theorem test_table_word : decodeTableWord 8 0b1100 = some .trace ∧ decodeTableWord 8 0b1101 = none ∧
    decodeTableWord 8 16 = none := by decide

/-! ### What the checks refuse -/

/-- The three reserved codes are no operation's code (R86). -/
theorem test_reserved_codes_not_assigned : codeAssigned 0b1101 = false ∧ codeAssigned 0b1110 = false ∧
    codeAssigned 0b1111 = false := by decide

/-- A good set of parameters, for the checks of 60_exceptions.md R231 to refuse a variant of. -/
def goodConfig : RawConfig where
  nS := 4
  nC := 4
  diffS := 10
  failsS := 3
  diffC := 10
  failsC := 3
  h := 1000
  ledIdleDiv := 4
  ledCntMod := 256
  filterOrder := .plausThenMean

/-- The largest legal values (10_state.md R38). -/
def largestConfig : RawConfig where
  nS := 65535
  nC := 65535
  diffS := 4294967295
  failsS := 65535
  diffC := 4294967295
  failsC := 65535
  h := 2147483647
  ledIdleDiv := 65536
  ledCntMod := 65536
  filterOrder := .meanThenPlaus

/-- The smallest legal values (10_state.md R38). -/
def smallestConfig : RawConfig where
  nS := 1
  nC := 1
  diffS := 0
  failsS := 0
  diffC := 0
  failsC := 0
  h := 1
  ledIdleDiv := 1
  ledCntMod := 1
  filterOrder := .plausThenMean

theorem test_config_windows : rawCheck { goodConfig with nS := 0, nC := 0 } = some (.windowNotPositive .S) ∧
    rawCheck { goodConfig with nC := -1 } = some (.windowNotPositive .C) := by decide
theorem test_config_half_band : rawCheck { goodConfig with h := 0, ledCntMod := 0 } = some .halfBandNotPositive := by
  decide
theorem test_config_led : rawCheck { goodConfig with ledCntMod := 65537 } = some .ledModulusOutOfRange ∧
    rawCheck { goodConfig with ledIdleDiv := 257 } = some .ledDivisorOutOfRange := by decide
theorem test_config_widths : rawCheck { goodConfig with h := 2147483648 } = some .parameterTooWide ∧
    rawCheck { goodConfig with diffC := 4294967296 } = some .parameterTooWide := by decide
theorem test_config_extremes : rawCheck largestConfig = none ∧ rawCheck smallestConfig = none ∧
    cfgRaw (rawCfg largestConfig) = largestConfig ∧ cfgRaw (rawCfg smallestConfig) = smallestConfig := by decide

/-! ### One step -/

/-- The reset state with `seq.stage` at a given code. -/
def atStage (c : Code) : State := { State.reset with stage := c }

/-- What an observation of the next state gives, if the step answers one. -/
def after {α : Type} (s : State) (look : State → α) : Option α :=
  match step s with
  | .next t => some (look t)
  | .fault _ => none
  | .refused _ => none

/-- An instance whose mean filters hold 100 and 60, with windows 4 and 8. -/
def withMeans (c : Code) : State :=
  { atStage c with
    cfg := { Cfg.base with nS := 4, nC := 8 }
    meanS := { valid := true, last := 100 }
    meanC := { valid := true, last := 60 }
    record := { State.reset.record with setClip := 200, curClip := 75 } }

/-- An instance whose plausibility filters hold 100, with given counts and the reading 500 on both channels. -/
def withPlaus (c : Code) (failsS failsC : Count) (reading : Word) : State :=
  { atStage c with
    plausS := { valid := true, last := 100, fails := failsS }
    plausC := { valid := true, last := 100, fails := failsC }
    record := { State.reset.record with setClip := reading, curClip := reading } }

/-- An instance with given temperatures and control state. -/
def withTemps (c : Code) (cooling : Bool) (setMdeg curMdeg : Word) : State :=
  { atStage c with
    cooling := cooling
    record := { State.reset.record with setMdeg := setMdeg, curMdeg := curMdeg, comp := cooling } }

/-- R213, worked example. -/
theorem test_idle_accepts : after { State.reset with pins := { Pins.quiet with tick := true } } State.stage =
    some 0b0001 := by decide
theorem test_idle_waits : after State.reset id = some State.reset := by decide
/-- R140, worked example. -/
theorem test_acq : after { atStage 0b0001 with pins := { Pins.quiet with adcSet := 400, adcCur := BitVec.ofInt 32 (-7) } }
    (fun t => (t.record.setRaw, t.record.curRaw.toInt)) = some (400, -7) := by decide
/-- R142, worked example and the corner −2^31. -/
theorem test_clipS : after { atStage 0b0010 with record := { State.reset.record with setRaw := 5000 } }
    (fun t => t.record.setClip) = some 4096 := by decide
theorem test_clipS_smallest : after { atStage 0b0010 with record := { State.reset.record with setRaw := 0x80000000 } }
    (fun t => t.record.setClip) = some 0 := by decide
/-- R143, worked example. -/
theorem test_clipC : after { atStage 0b0011 with record := { State.reset.record with curRaw := BitVec.ofInt 32 (-7) } }
    (fun t => (t.record.curClip, t.stage)) = some (0, 0b0100) := by decide
/-- R122, worked example. -/
theorem test_plausS_rejects : after (withPlaus 0b0100 0 0 500) (fun t => (t.plausS, t.record.setClip)) =
    some ({ valid := true, last := 100, fails := 1 }, 100) := by decide
/-- R125: the boundary is inclusive, downward too. -/
theorem test_plausS_boundary : after (withPlaus 0b0100 2 0 90) (fun t => (t.plausS, t.record.setClip)) =
    some ({ valid := true, last := 90, fails := 0 }, 90) := by decide
/-- R123, worked example. -/
theorem test_plausC_force_accepts : after (withPlaus 0b0101 0 3 500) (fun t => (t.plausC, t.record.curClip)) =
    some ({ valid := true, last := 500, fails := 0 }, 500) := by decide
/-- R105, worked example. -/
theorem test_meanS : after (withMeans 0b0110) (fun t => (t.meanS, t.record.setClip)) =
    some ({ valid := true, last := 125 }, 125) := by decide
/-- R106, worked example. -/
theorem test_meanC : after (withMeans 0b0111) (fun t => (t.meanC, t.record.curClip)) =
    some ({ valid := true, last := 61 }, 61) := by decide
/-- R156, worked example and a corner. -/
theorem test_mapS : after { atStage 0b1000 with record := { State.reset.record with setClip := 400 } }
    (fun t => t.record.setMdeg) = some 10000 := by decide
theorem test_mapS_above_the_bands : after { atStage 0b1000 with record := { State.reset.record with setClip := 661 } }
    (fun t => t.record.setMdeg) = some 15000 := by decide
/-- R158, worked example and a corner. -/
theorem test_mapC : after { atStage 0b1001 with record := { State.reset.record with curClip := 150 } }
    (fun t => t.record.curMdeg) = some 11000 := by decide
theorem test_mapC_below_zero : after { atStage 0b1001 with record := { State.reset.record with curClip := 39 } }
    (fun t => t.record.curMdeg.toInt) = some (-100) := by decide
/-- R172, worked example, and R176: exactly 9000 returns to Idle. -/
theorem test_ctrl_on : after (withTemps 0b1010 false 10000 11000) (fun t => (t.cooling, t.record.comp)) =
    some (true, true) := by decide
theorem test_ctrl_off : after (withTemps 0b1010 true 10000 9000) (fun t => (t.cooling, t.record.comp)) =
    some (false, false) := by decide
/-- R186, worked example. -/
theorem test_act : after { atStage 0b1011 with act := { ledPhase := true, ledCnt := 8 } } (fun t => (t.act, t.lines)) =
    some ({ ledPhase := false, ledCnt := 9 }, { comp := false, led := false }) := by decide
/-- R190: the count wraps at the modulus. -/
theorem test_act_wraps : after { atStage 0b1011 with act := { ledPhase := true, ledCnt := 255 } } (fun t => t.act) =
    some { ledPhase := true, ledCnt := 0 } := by decide
/-- R200, worked example. -/
theorem test_trace : after (withTemps 0b1100 true 10000 11000) (fun t => (t.trace, t.stage)) =
    some ({ valid := true, comp := true, setMdeg := 10000, curMdeg := 11000 }, 0b0000) := by decide
/-- R200: "0 again in the next". -/
theorem test_strobe_falls : after { State.reset with trace := { State.reset.trace with valid := true, setMdeg := 5000 } }
    (fun t => (t.trace.valid, t.trace.setMdeg)) = some (false, 5000) := by decide
/-- R262: reset wins over a request, in mid-tick too. -/
theorem test_reset_wins : after { atStage 0b1010 with pins := { Pins.quiet with rst := true, tick := true } }
    (fun t => (t.stage, t.cfg)) = some (0b0000, Cfg.base) := by decide
/-- R86: stuck. -/
theorem test_reserved_stuck : step (atStage 0b1110) = .refused (.stuckStage 0b1110) := rfl
theorem test_withFetchWord : after (State.reset.withFetchWord 8 0b1000) (fun t => t.stage) = some 0b1001 := by decide

/-- R221: a RESET after the last TICK is no part of the run, one before it is. -/
theorem test_run_ends_at_last_tick :
    throughLastTick [.reset, .tick { set := 1, cur := 2 }, .reset, .tick { set := 3, cur := 4 }, .reset, .reset] =
      [.reset, .tick { set := 1, cur := 2 }, .reset, .tick { set := 3, cur := 4 }] := by decide

/-! ### Witnesses of hypotheses -/

/-- `State.reset` has `Inv`. -/
theorem witness_Inv : Inv State.reset := by
  constructor <;> decide

/-- A state in mid-tick that has `Inv`: at TRACE, cooling. -/
def atTrace : State :=
  { withTemps 0b1100 true 10000 11000 with lines := { comp := true, led := false } }

theorem witness_Inv_at_trace : Inv atTrace := by
  constructor <;> decide

/-- A reset instance with another configuration. -/
theorem witness_Inv_wide_half_band : Inv (State.resetOf { Cfg.base with h := 400601 }) := by
  constructor <;> decide

theorem witness_ResetPutsEveryElementAtItsResetValue :
    cfgCheck atTrace.cfg = none ∧ { atTrace with pins := { Pins.quiet with rst := true } }.pins.rst = true := by decide

theorem witness_ConstructionReportsTheFirstFailingCheck :
    ({ goodConfig with nS := 0 }.nS < 1) ∧ ({ goodConfig with nC := 0 }.nC < 1) ∧ ({ goodConfig with h := 0 }.h < 1) ∧
    (¬ (1 ≤ { goodConfig with ledCntMod := 0 }.ledCntMod)) ∧ (¬ ({ goodConfig with ledCntMod := 65537 }.ledCntMod ≤ 65536)) ∧
    (¬ ({ goodConfig with ledIdleDiv := 257 }.ledIdleDiv ≤ goodConfig.ledCntMod)) ∧
    (¬ ({ goodConfig with failsC := 65536 }.failsC ≤ 65535)) ∧
    (1 ≤ largestConfig.nS ∧ largestConfig.nS ≤ 65535 ∧ 1 ≤ largestConfig.nC ∧ largestConfig.nC ≤ 65535 ∧
      1 ≤ largestConfig.h ∧ largestConfig.h ≤ 2147483647 ∧ largestConfig.diffS ≤ 4294967295 ∧
      largestConfig.failsS ≤ 65535 ∧ largestConfig.diffC ≤ 4294967295 ∧ largestConfig.failsC ≤ 65535 ∧
      1 ≤ largestConfig.ledCntMod ∧ largestConfig.ledCntMod ≤ 65536 ∧ 1 ≤ largestConfig.ledIdleDiv ∧
      largestConfig.ledIdleDiv ≤ largestConfig.ledCntMod) := by decide

theorem witness_InvalidConfigurationHasNoBehaviour :
    cfgCheck (State.resetOf { Cfg.base with h := 0 }).cfg = some .halfBandNotPositive := by decide

theorem witness_DecodeUndoesEncode : decode 0b1100 = .ok .trace := by decide

theorem witness_StepRunsTheSelectedOperation :
    cfgCheck (atStage 0b0111).cfg = none ∧ (atStage 0b0111).pins.rst = false ∧
    decode (atStage 0b0111).stage = .ok .meanC ∧ Instr.meanC.wellFormed = true ∧ (atStage 0b0111).hostPlan = [] ∧
    { atStage 0b0111 with hostPlan := [Pins.quiet] }.hostPlan = Pins.quiet :: [] := by decide

theorem witness_ReservedCodesAreStuck :
    cfgCheck (atStage 0b1101).cfg = none ∧ (atStage 0b1101).pins.rst = false ∧ (atStage 0b1101).stage = 0b1101 ∧
    (atStage 0b1110).stage = 0b1110 ∧ (atStage 0b1111).stage = 0b1111 := by decide

theorem witness_NextStageFollowsTheTable :
    (∃ t, exec .plausC (atStage 0b0101) = .next t) ∧ (atStage 0b0101).cfg.filterOrder = .plausThenMean ∧
    (∃ t, exec .plausC (State.resetOf (rawCfg largestConfig)) = .next t) ∧
    (State.resetOf (rawCfg largestConfig)).cfg.filterOrder = .meanThenPlaus :=
  ⟨⟨_, rfl⟩, rfl, ⟨_, rfl⟩, rfl⟩

/-- The reset state with a tick requested, the samples 400 and 150 held, and the levels of a whole tick planned. -/
def requested : State := playLevels State.reset (tickLevels { set := 400, cur := 150 })

theorem witness_Inv_requested : Inv requested := by
  constructor <;> decide

theorem witness_AcceptedTickRunsTheTwelveOperationsInOrder :
    Inv requested ∧ requested.stage = 0b0000 ∧ requested.pins.rst = false ∧ requested.pins.tick = true ∧
    (∀ p ∈ requested.hostPlan.take 12, p.rst = false) ∧ 12 ≤ 12 := ⟨witness_Inv_requested, by decide⟩

theorem witness_IdleAcceptsARequestOrWaits :
    cfgCheck requested.cfg = none ∧ requested.pins.tick = true ∧ State.reset.pins.tick = false := by decide

/-- Also the hypothesis of every statement about one operation on an instance. -/
theorem witness_AcqReadsBothSamplePorts : cfgCheck State.reset.cfg = none := by decide

theorem witness_ClipSaturatesItsChannel :
    cfgCheck (atStage 0b0010).cfg = none ∧ (0xFFFFFFFF : Word).toInt < 0 ∧ 4096 < (4097 : Word).toInt ∧ 0 ≤ (0 : Word).toInt ∧ (4096 : Word).toInt ≤ 4096 := by
  decide

theorem witness_PlausSUpdatesTheSetpointChannel :
    cfgCheck (withPlaus 0b0100 0 0 110).cfg = none ∧ State.reset.plausS.valid = false ∧
    (let s := withPlaus 0b0100 0 0 110; s.plausS.valid = true ∧
      (s.plausS.last.toInt - s.record.setClip.toInt).natAbs ≤ s.cfg.diffS.toNat) ∧
    (let s := withPlaus 0b0100 3 0 111; s.plausS.valid = true ∧
      s.cfg.diffS.toNat < (s.plausS.last.toInt - s.record.setClip.toInt).natAbs ∧
      s.cfg.failsS.toNat < s.plausS.fails.toNat + 1) ∧
    (let s := withPlaus 0b0100 2 0 111; s.cfg.diffS.toNat < (s.plausS.last.toInt - s.record.setClip.toInt).natAbs ∧
      s.plausS.fails.toNat + 1 ≤ s.cfg.failsS.toNat) := by decide

theorem witness_PlausCUpdatesTheSensorChannel :
    cfgCheck (withPlaus 0b0101 0 0 90).cfg = none ∧ State.reset.plausC.valid = false ∧
    (let s := withPlaus 0b0101 0 0 90; s.plausC.valid = true ∧
      (s.plausC.last.toInt - s.record.curClip.toInt).natAbs ≤ s.cfg.diffC.toNat) ∧
    (let s := withPlaus 0b0101 0 3 89; s.plausC.valid = true ∧
      s.cfg.diffC.toNat < (s.plausC.last.toInt - s.record.curClip.toInt).natAbs ∧
      s.cfg.failsC.toNat < s.plausC.fails.toNat + 1) ∧
    (let s := withPlaus 0b0101 0 2 89; s.cfg.diffC.toNat < (s.plausC.last.toInt - s.record.curClip.toInt).natAbs ∧
      s.plausC.fails.toNat + 1 ≤ s.cfg.failsC.toNat) := by decide

theorem witness_MeanSUpdatesTheSetpointChannel :
    cfgCheck (withMeans 0b0110).cfg = none ∧ State.reset.meanS.valid = false ∧ (withMeans 0b0110).meanS.valid = true := by
  decide

theorem witness_MeanCUpdatesTheSensorChannel :
    cfgCheck (withMeans 0b0111).cfg = none ∧ State.reset.meanC.valid = false ∧ (withMeans 0b0111).meanC.valid = true := by
  decide

theorem witness_MapSGivesTheThreeBands :
    cfgCheck (atStage 0b1000).cfg = none ∧ 0 ≤ (0 : Word).toInt ∧ (180 : Word).toInt ≤ 180 ∧ 181 ≤ (181 : Word).toInt ∧ (660 : Word).toInt ≤ 660 ∧
    (0xFFFFFFFF : Word).toInt < 0 ∧ 661 ≤ (661 : Word).toInt := by decide

/-- The reset state with a given sensor reading, at MAP.C. -/
def withReading (x : Int) : State :=
  { atStage 0b1001 with record := { State.reset.record with curClip := narrow x } }

theorem witness_MapCIsTheAffineMap :
    cfgCheck (withReading 0).cfg = none ∧
    (∀ x ∈ [(-21474796 : Int), 21474876], -21474796 ≤ (withReading x).record.curClip.toInt ∧
      (withReading x).record.curClip.toInt ≤ 21474876) := by decide

theorem witness_MapCRefusesWhatDoesNotFit :
    cfgCheck (withReading 0).cfg = none ∧ (withReading (-21474797)).record.curClip.toInt < -21474796 ∧
    21474876 < (withReading 21474877).record.curClip.toInt := by decide

theorem witness_CtrlFollowsTheTransitionTable :
    cfgCheck (withTemps 0b1010 false 10000 11000).cfg = none ∧
    (let s := withTemps 0b1010 false 10000 11000;
      s.record.setMdeg.toInt + s.cfg.h.toNat ≤ s.record.curMdeg.toInt) ∧
    (let s := withTemps 0b1010 true 10000 9000;
      s.record.curMdeg.toInt ≤ s.record.setMdeg.toInt - s.cfg.h.toNat) ∧
    (let s := withTemps 0b1010 true 10000 9001;
      s.record.setMdeg.toInt - s.cfg.h.toNat < s.record.curMdeg.toInt ∧
      s.record.curMdeg.toInt < s.record.setMdeg.toInt + s.cfg.h.toNat) ∧
    (let s := withTemps 0b1010 true 10000 10999;
      s.record.setMdeg.toInt - s.cfg.h.toNat < s.record.curMdeg.toInt ∧
      s.record.curMdeg.toInt < s.record.setMdeg.toInt + s.cfg.h.toNat) := by decide

theorem witness_ActDrivesTheLines :
    cfgCheck (withTemps 0b1011 true 0 0).cfg = none ∧ (withTemps 0b1011 true 0 0).record.comp = true ∧ State.reset.record.comp = false ∧
    State.reset.act.ledCnt.toNat % State.reset.cfg.ledIdleDiv.toNat = 0 ∧
    (let s : State := { State.reset with act := { ledPhase := true, ledCnt := 3 } };
      s.act.ledCnt.toNat % s.cfg.ledIdleDiv.toNat ≠ 0) := by decide

theorem witness_TracePresentsTheRecord :
    cfgCheck atTrace.cfg = none ∧ ∃ t, exec .trace atTrace = .next t ∧ t.pins.rst = false := ⟨by decide, _, rfl, rfl⟩

theorem witness_EachElementChangesOnlyByItsWriters :
    atTrace.pins.rst = false ∧ decode atTrace.stage = .ok .trace ∧ ∃ t, step atTrace = .next t := ⟨rfl, rfl, _, rfl⟩

theorem witness_ValidBitsFallOnlyByReset :
    (withMeans 0b0110).pins.rst = false ∧ (withMeans 0b0110).meanS.valid = true ∧ (withMeans 0b0110).meanC.valid = true ∧
    (withPlaus 0b0100 0 0 0).plausS.valid = true ∧ (withPlaus 0b0100 0 0 0).plausC.valid = true ∧
    (∃ t, step (withMeans 0b0110) = .next t) ∧ ∃ t, step (withPlaus 0b0100 0 0 0) = .next t :=
  ⟨rfl, rfl, rfl, rfl, rfl, ⟨_, rfl⟩, _, rfl⟩

theorem witness_StrobePulsesForOneStep : Inv atTrace ∧ atTrace.pins.rst = false ∧ atTrace.stage = 0b1100 :=
  ⟨witness_Inv_at_trace, by decide⟩

theorem witness_PortsAreIgnoredDuringATick :
    State.reset.pins.rst = false ∧ (∃ u, step State.reset = .next u) ∧ State.reset.stage ≠ 0b0001 ∧
    (atStage 0b0001).pins.rst = false ∧ (∃ u, step (atStage 0b0001) = .next u) ∧ (atStage 0b0001).stage ≠ 0b0000 :=
  ⟨rfl, ⟨_, rfl⟩, by decide, rfl, ⟨_, rfl⟩, by decide⟩

theorem witness_ChannelOperationsCommute :
    cfgCheck State.reset.cfg = none ∧ Instr.meanS ∈ [Instr.clipS, .plausS, .meanS] ∧
    Instr.plausC ∈ [Instr.clipC, .plausC, .meanC] := by decide

theorem witness_IndicatorInfluencesNothingElse :
    SameButIndicator requested
      { requested with act := { ledPhase := true, ledCnt := 8 }, lines := { requested.lines with led := true } } ∧
    ∃ u, run 2 requested = .next u := ⟨rfl, _, rfl⟩

/-- With a record, lines and trace ports (`r`, `l`, `o` of the statement) that differ in every element from those that
`Inv` allows with the rest of the state: the command and both lines 1 beside Idle. -/
theorem witness_TickReadsNoEarlierRecord :
    Inv requested ∧ requested.stage = 0b0000 ∧ requested.pins.rst = false ∧ requested.pins.tick = true ∧
    (∀ p ∈ requested.hostPlan.take 12, p.rst = false) ∧
    (let s : State := { requested with
       record := { setRaw := 7, setClip := 7, curRaw := 9, curClip := 9, setMdeg := 7, curMdeg := 9, comp := true }
       lines := { comp := true, led := true }
       trace := { valid := true, comp := true, setMdeg := 9, curMdeg := 7 } }
     s.record.comp ≠ requested.record.comp ∧ s.lines.comp ≠ requested.lines.comp ∧
     s.lines.led ≠ requested.lines.led ∧ s.trace.comp ≠ requested.trace.comp) :=
  ⟨witness_Inv_requested, by decide⟩

theorem witness_InvHoldsAfterReset :
    (∃ s, construct goodConfig = .next s) ∧ cfgCheck (rawCfg smallestConfig) = none := ⟨⟨_, rfl⟩, by decide⟩

theorem witness_StepKeepsInv : Inv atTrace ∧ ∃ t, step atTrace = .next t := ⟨witness_Inv_at_trace, _, rfl⟩

theorem witness_EveryRunFromInvGoesOn : Inv requested := witness_Inv_requested

/-- A request with nothing planned: the ports keep their levels. -/
theorem witness_Inv_held : Inv { requested with hostPlan := [] } := by
  constructor <;> decide

/-- With the levels of a whole tick planned, and with nothing planned. -/
theorem witness_ThirteenStepsAreTheAtomicTick :
    (Inv requested ∧ requested.stage = 0b0000 ∧ requested.pins.rst = false ∧ requested.pins.tick = true ∧
      ∀ p ∈ requested.hostPlan.take 12, p.rst = false) ∧
    (let s := { requested with hostPlan := [] }
     Inv s ∧ s.stage = 0b0000 ∧ s.pins.rst = false ∧ s.pins.tick = true ∧ ∀ p ∈ s.hostPlan.take 12, p.rst = false) :=
  ⟨⟨witness_Inv_requested, by decide⟩, witness_Inv_held, by decide⟩

theorem witness_PlayedActionsRunAsAtomicSteps :
    Inv State.reset ∧ State.reset.stage = 0b0000 ∧ State.reset.hostPlan = [] := ⟨witness_Inv, by decide⟩

theorem witness_AtomicTickGoesOn : Inv requested ∧ requested.stage = 0b0000 := ⟨witness_Inv_requested, rfl⟩

/-- A state in IDLE whose sensor mean filter holds a given value, with the window 65535. -/
def withLast (x : Int) : State :=
  { State.reset with
    cfg := { Cfg.base with nC := 65535, filterOrder := .meanThenPlaus }
    meanC := { valid := true, last := narrow x } }

/-- The reading just outside and just inside what fits, at both ends, on samples that keep it there. -/
theorem witness_AtomicTickRefusesOutsideItsDomain :
    cfgCheck { Cfg.base with h := 0 } = some .halfBandNotPositive ∧
    cfgCheck (atStage 0b0001).cfg = none ∧ (atStage 0b0001).stage ≠ 0b0000 ∧
    cfgCheck (withLast 0).cfg = none ∧ (withLast 0).stage = 0b0000 ∧
    (condition (withLast (-21475126)) .C (clip 0 0 4096)).2.2 = -21474798 ∧
    (condition (withLast (-21475124)) .C (clip 0 0 4096)).2.2 = -21474796 ∧
    (condition (withLast 21475204) .C (clip 0 0 4096)).2.2 = 21474876 ∧
    (condition (withLast 21475206) .C (clip 0 0 4096)).2.2 = 21474878 := by decide

theorem witness_ProgramRunEndsAfterItsLastTick : ∃ s, construct goodConfig = .next s := ⟨_, rfl⟩

theorem witness_FirstTickIsUnfiltered :
    cfgCheck (rawCfg goodConfig) = none ∧ cfgCheck (rawCfg largestConfig) = none := by decide

theorem witness_ConstantSamplesStayUnfiltered :
    cfgCheck Cfg.base = none ∧ ({ set := 400, cur := 150 } : Stimulus).set = 400 := by decide

theorem witness_FilterOrdersAgreeOnPassThroughAndConstantInput :
    (let s := State.resetOf (rawCfg smallestConfig)
     s.cfg.nS = 1 ∧ s.cfg.nC = 1 ∧ s.cfg.failsS = 0 ∧ s.cfg.failsC = 0) ∧ cfgCheck Cfg.base = none := by decide

theorem witness_MeanOutputsStayWithinTheInputs :
    (1 ≤ 4) ∧ (∀ last ∈ some (-3 : Int), -3 ≤ last ∧ last ≤ 7) ∧ ∀ x ∈ [(-3 : Int), 7], -3 ≤ x ∧ x ≤ 7 := by decide

theorem witness_MeanClosedForm : (1 ≤ 4) ∧ (0 : Int) ≤ 100 ∧ (0 : Int) ≤ 200 := by decide

theorem witness_MeanOnAConstantInput :
    (1 ≤ 4) ∧ (0 : Int) ≤ 100 ∧ (100 : Int) < 101 ∧ (0 : Int) ≤ 0 ∧ (100 : Int) ≤ 100 := by decide

theorem witness_PlausKeepsItsCountAndEchoesItsInputs :
    (some (100 : Int), 3).2 ≤ 3 ∧ ((none : Option Int), 0).2 ≤ 3 ∧ ((none : Option Int), 0).2 = 0 := by decide

theorem witness_PlausRetriesAreBounded :
    [(500 : Int), 111, 89].length = 3 ∧ (∀ v ∈ [(500 : Int), 111, 89] ++ [500], 10 < (100 - v).natAbs) ∧
    ((100 : Int) - 110).natAbs ≤ 10 := by decide

theorem witness_SlowRampPassesThePlausibilityFilter :
    List.IsChain (fun a b : Int => (a - b).natAbs ≤ 10) (100 :: [110, 120, 111]) := by decide

/-- Pass-through filters, so that the ticks' temperatures are those of the samples. -/
def unfiltered : State := State.resetOf { rawCfg smallestConfig with h := 1000 }

theorem witness_Inv_unfiltered : Inv unfiltered := by
  constructor <;> decide

/-- The setpoint dial at 400 (10000), the sensor at 11000 and then at 9000. -/
def onThenOff : List Stimulus := [{ set := 400, cur := 150 }, { set := 400, cur := 130 }]

theorem witness_CompressorChangesNeedTwoHalfBands :
    Inv (trail unfiltered onThenOff 0) ∧ TickRun onThenOff (trail unfiltered onThenOff) ∧
    (let u := trail unfiltered onThenOff
     0 < 1 ∧ 1 < onThenOff.length ∧ (∀ k ≤ onThenOff.length, 1 ≤ k → (u k).record.setMdeg = 10000) ∧
     (u 0).cooling ≠ (u 1).cooling ∧ (∀ k ≤ 1, 0 < k → (u k).cooling = (u 1).cooling) ∧
     (u 1).cooling ≠ (u 2).cooling) := by
  exact ⟨witness_Inv_unfiltered, tickRun_trail (by decide), by decide⟩

/-- 10500 and 10400 around 10000 with H = 1000, the document's example. -/
def inBandTicks : List Stimulus := [{ set := 400, cur := 145 }, { set := 400, cur := 144 }]

theorem witness_DeadBandNeverChatters :
    Inv (trail unfiltered inBandTicks 0) ∧ TickRun inBandTicks (trail unfiltered inBandTicks) ∧
    (let u := trail unfiltered inBandTicks
     ∀ k ≤ inBandTicks.length, 1 ≤ k →
      (u k).record.setMdeg.toInt - (u 0).cfg.h.toNat < (u k).record.curMdeg.toInt ∧
      (u k).record.curMdeg.toInt < (u k).record.setMdeg.toInt + (u 0).cfg.h.toNat) := by
  exact ⟨witness_Inv_unfiltered, tickRun_trail (by decide), by decide⟩

/-- With `Inv` at the reset state, a half-band above every temperature. -/
theorem witness_WideHalfBandNeverStartsTheCompressor :
    (let s := State.resetOf { Cfg.base with h := 400601 }
     Inv s ∧ 400600 < s.cfg.h.toNat ∧ s.cooling = false ∧ s.lines.comp = false ∧ ∃ t, run 1 s = .next t) :=
  ⟨witness_Inv_wide_half_band, by decide, rfl, rfl, _, rfl⟩

/-- Pass-through filters, the idle divisor 2 and the modulus 5 or 4. -/
def blinking (m : BitVec 17) : State :=
  State.resetOf { rawCfg smallestConfig with h := 1000, ledIdleDiv := 2, ledCntMod := m }

theorem witness_Inv_blinking : Inv (blinking 5) ∧ Inv (blinking 4) := by
  refine ⟨?_, ?_⟩ <;> constructor <;> decide

/-- Ticks at 11000 against 10000, for the command 1; at 9000, for the command 0. -/
def coolingTicks : List Stimulus := List.replicate 5 { set := 400, cur := 150 }
def idleTicks : List Stimulus := List.replicate 5 { set := 400, cur := 130 }
def sixIdleTicks : List Stimulus := List.replicate 6 { set := 400, cur := 130 }

/-- Five ticks for each command, those for the command 0 up to the wrap. -/
theorem witness_IndicatorRates :
    (Inv (trail (blinking 5) coolingTicks 0) ∧ TickRun coolingTicks (trail (blinking 5) coolingTicks) ∧
     ∀ k ≤ coolingTicks.length, 1 ≤ k → (trail (blinking 5) coolingTicks k).lines.comp = true) ∧
    (Inv (trail (blinking 5) idleTicks 0) ∧ TickRun idleTicks (trail (blinking 5) idleTicks) ∧
     (∀ k ≤ idleTicks.length, 1 ≤ k → (trail (blinking 5) idleTicks k).lines.comp = false) ∧
     (blinking 5).act.ledCnt.toNat + idleTicks.length ≤ (blinking 5).cfg.ledCntMod.toNat) :=
  ⟨⟨witness_Inv_blinking.1, tickRun_trail (by decide), by decide⟩, witness_Inv_blinking.1, tickRun_trail (by decide), by decide⟩

/-- What a statement on the idle spacing supposes of two changes of `led_o`, in the ticks i + 1 and j + 1. -/
def successiveToggles (u : Nat → State) (i j : Nat) : Bool :=
  i < j && (u (i + 1)).lines.led != (u i).lines.led
    && (List.range j).all (fun k => k ≤ i || (u (k + 1)).lines.led == (u k).lines.led)
    && (u (j + 1)).lines.led != (u j).lines.led

/-- Idle: the counts 2 and 4, then 4 and 0 across the wrap of 5; and 2 and 0 across the wrap of 4. -/
theorem witness_TickCounterWraps :
    (let u := trail (blinking 5) sixIdleTicks
     Inv (u 0) ∧ TickRun sixIdleTicks u ∧ (∀ k ≤ sixIdleTicks.length, 1 ≤ k → (u k).lines.comp = false) ∧
     successiveToggles u 2 4 = true ∧ (u 4).act.ledCnt ≠ 0 ∧ successiveToggles u 4 5 = true ∧ (u 5).act.ledCnt = 0 ∧
     5 < sixIdleTicks.length ∧ ¬ (u 0).cfg.ledIdleDiv.toNat ∣ (u 0).cfg.ledCntMod.toNat) ∧
    (let u := trail (blinking 4) sixIdleTicks
     Inv (u 0) ∧ TickRun sixIdleTicks u ∧ (∀ k ≤ sixIdleTicks.length, 1 ≤ k → (u k).lines.comp = false) ∧
     successiveToggles u 2 4 = true ∧ (u 4).act.ledCnt = 0 ∧ (u 0).cfg.ledIdleDiv.toNat ∣ (u 0).cfg.ledCntMod.toNat) :=
  ⟨⟨witness_Inv_blinking.1, tickRun_trail (by decide), by decide⟩,
   witness_Inv_blinking.2, tickRun_trail (by decide), by decide⟩

theorem witness_CoolingOnTestComesFirst :
    (10000 : Int) + 0 ≤ 10000 ∧ (10000 : Int) ≤ 10000 - 0 ∧ (1 : Int) ≤ 1 := by decide

end Sys2Proof.Tests
end

section
/-! PROOFS. The reset state and the derived ports (10_state.md R36, R42). -/

namespace Sys2Proof.Machine

/-! ### The elements of the reset state (10_state.md R42) -/

@[simp] theorem State.resetOf_cfg (c : Cfg) : (State.resetOf c).cfg = c := rfl
@[simp] theorem State.resetOf_record (c : Cfg) : (State.resetOf c).record = ⟨0, 0, 0, 0, 0, 0, false⟩ := rfl
@[simp] theorem State.resetOf_meanS (c : Cfg) : (State.resetOf c).meanS = ⟨false, 0⟩ := rfl
@[simp] theorem State.resetOf_meanC (c : Cfg) : (State.resetOf c).meanC = ⟨false, 0⟩ := rfl
@[simp] theorem State.resetOf_plausS (c : Cfg) : (State.resetOf c).plausS = ⟨false, 0, 0⟩ := rfl
@[simp] theorem State.resetOf_plausC (c : Cfg) : (State.resetOf c).plausC = ⟨false, 0, 0⟩ := rfl
@[simp] theorem State.resetOf_cooling (c : Cfg) : (State.resetOf c).cooling = false := rfl
@[simp] theorem State.resetOf_act (c : Cfg) : (State.resetOf c).act = ⟨false, 0⟩ := rfl
@[simp] theorem State.resetOf_lines (c : Cfg) : (State.resetOf c).lines = ⟨false, false⟩ := rfl
@[simp] theorem State.resetOf_trace (c : Cfg) : (State.resetOf c).trace = ⟨false, false, 0, 0⟩ := rfl
@[simp] theorem State.resetOf_stage (c : Cfg) : (State.resetOf c).stage = encode .idle := rfl

/-! ### The derived ports -/

theorem busyO_eq_true_iff (s : State) : busyO s = true ↔ s.stage ≠ encode .idle := bne_iff_ne

theorem busyO_eq_false_iff (s : State) : busyO s = false ↔ s.stage = encode .idle := bne_eq_false_iff_eq

@[simp] theorem stageO_eq (s : State) : stageO s = s.stage := rfl

/-! ### The step with `rst` = 1 -/

/-- After a step with `rst` = 1 the state is the reset state of its configuration but for the host's side. -/
theorem step_of_rst {s : State} (hc : cfgCheck s.cfg = none) (hr : s.pins.rst = true) :
    ∃ t, step s = .next t ∧ SameButHost (State.resetOf s.cfg) t :=
  ⟨_, cycle_reset hc hr, hostNext_eq (applyReset s)⟩

end Sys2Proof.Machine

open Sys2Proof
open Sys2Proof.Machine

/-- Settles O1: the state after the step is the reset state of the configuration (`step_of_rst`), whose elements are
those of R42; `busy_o` is 0 because the stage is IDLE. -/
theorem resetPutsEveryElementAtItsResetValue : Obligations.ResetPutsEveryElementAtItsResetValue := by
  unfold Obligations.ResetPutsEveryElementAtItsResetValue
  intro s hc hr
  obtain ⟨t, hstep, ht⟩ := step_of_rst hc hr
  refine ⟨t, hstep, ?_⟩
  rw [ht]
  simp [busyO_eq_false_iff, encode]

/-- Settles O56: `busy_o` is the test of `seq.stage` against IDLE, which is the stage of every reset state. -/
theorem busyAndStagePortsFollowTheStage : Obligations.BusyAndStagePortsFollowTheStage := by
  unfold Obligations.BusyAndStagePortsFollowTheStage
  constructor
  · intro s
    exact ⟨busyO_eq_true_iff s, stageO_eq s⟩
  · intro c
    have hstage : (State.resetOf c).stage = encode .idle := State.resetOf_stage c
    exact ⟨(busyO_eq_false_iff _).2 hstage, hstage⟩

end

section
/-! PROOFS. The stage codes and the stimulus word (30_encoding.md R82, R83, R86, R88). -/

namespace Sys2Proof

/-! ### The stage-code map -/

/-- The decoder reads every operation off its own code (R83). -/
@[simp] theorem decode_encode (i : Instr) : decode (encode i) = .ok i := by
  cases i <;> rfl

/-- A code that the map assigns to no operation is rejected under its own name (R86). -/
theorem decode_of_not_codeAssigned : ∀ {c : Code}, codeAssigned c = false → decode c = .error (.reservedCode c) := by
  decide

/-- The two fields of R82 are adjacent and make up the four bits. -/
@[simp] theorem codeUnit_append_codeSel (c : Code) : codeUnit c ++ codeSel c = c :=
  BitVec.extractLsb'_append_extractLsb' (w := 3) (len := 1)

/-! ### The stimulus word (R88) -/

theorem extractLsb'_encodeStimulus_cur (x : Stimulus) : (encodeStimulus x).extractLsb' 32 32 = x.cur :=
  BitVec.extractLsb'_append_eq_left

theorem extractLsb'_encodeStimulus_set (x : Stimulus) : (encodeStimulus x).extractLsb' 0 32 = x.set :=
  BitVec.extractLsb'_append_eq_right

@[simp] theorem decodeStimulus_encodeStimulus (x : Stimulus) : decodeStimulus (encodeStimulus x) = x := by
  rw [decodeStimulus, extractLsb'_encodeStimulus_set, extractLsb'_encodeStimulus_cur]

@[simp] theorem encodeStimulus_decodeStimulus (w : BitVec 64) : encodeStimulus (decodeStimulus w) = w :=
  BitVec.extractLsb'_append_extractLsb' (w := 32) (len := 32)

end Sys2Proof

open Sys2Proof

/-- Settles O4: the thirteen assigned rows are `decode_encode` read with the operation's code written out, the three
reserved rows are codes that the map does not assign, and the fields are adjacent. -/
theorem stageCodesDecodeAsTabulated : Obligations.StageCodesDecodeAsTabulated := by
  unfold Obligations.StageCodesDecodeAsTabulated
  have h1101 : decode 0b1101 = .error (.reservedCode 0b1101) := decode_of_not_codeAssigned (by decide)
  have h1110 : decode 0b1110 = .error (.reservedCode 0b1110) := decode_of_not_codeAssigned (by decide)
  have h1111 : decode 0b1111 = .error (.reservedCode 0b1111) := decode_of_not_codeAssigned (by decide)
  exact ⟨decode_encode .idle, decode_encode .acq, decode_encode .clipS, decode_encode .clipC, decode_encode .plausS,
    decode_encode .plausC, decode_encode .meanS, decode_encode .meanC, decode_encode .mapS, decode_encode .mapC,
    decode_encode .ctrl, decode_encode .act, decode_encode .trace, h1101, h1110, h1111, codeUnit_append_codeSel⟩

/-- Settles O6: the fields are the two halves of an append, so each round trip puts back what the other took apart;
the two examples of R88 are evaluated. -/
theorem stimulusWordHoldsTheSamples : Obligations.StimulusWordHoldsTheSamples := by
  unfold Obligations.StimulusWordHoldsTheSamples
  have hfields (x : Stimulus) :
      (encodeStimulus x).extractLsb' 32 32 = x.cur ∧ (encodeStimulus x).extractLsb' 0 32 = x.set :=
    ⟨extractLsb'_encodeStimulus_cur x, extractLsb'_encodeStimulus_set x⟩
  exact ⟨hfields, decodeStimulus_encodeStimulus, encodeStimulus_decodeStimulus, by decide, by decide⟩

end

section
/-! PROOFS. The mean filter operations MEAN.S and MEAN.C (40_mean_filter.md R101, R103 to R106). -/

namespace Sys2Proof.Machine

/-! ### The quotient of the weighted sum -/

/-- The quotient toward zero of an integer from `lo * n` to `hi * n` is from `lo` to `hi`. -/
theorem tdiv_mem_of_mul_bounds {a n lo hi : Int} (hn : 0 < n) (hlo : lo * n ≤ a) (hhi : a ≤ hi * n) :
    lo ≤ tdiv a n ∧ tdiv a n ≤ hi := by
  rw [tdiv_eq_tdiv]
  constructor
  · calc lo = (lo * n).tdiv n := (Int.mul_tdiv_cancel lo hn.ne').symm
      _ ≤ a.tdiv n := Int.tdiv_le_tdiv hn hlo
  · calc a.tdiv n ≤ (hi * n).tdiv n := Int.tdiv_le_tdiv hn hhi
      _ = hi := Int.mul_tdiv_cancel hi hn.ne'

/-- One update keeps every interval that holds its input and the last value (40_mean_filter.md R104): the exact sum is
`n - 1` shares of the last value and one of the input. -/
theorem meanUpdate_mem {n : Nat} {lo hi value : Int} {st : Option Int} (hn : 1 ≤ n)
    (hst : ∀ last, st = some last → lo ≤ last ∧ last ≤ hi) (hv : lo ≤ value ∧ value ≤ hi) :
    lo ≤ (meanUpdate n st value).2 ∧ (meanUpdate n st value).2 ≤ hi := by
  cases st with
  | none => exact hv
  | some last =>
    obtain ⟨hlo, hhi⟩ := hst last rfl
    have hshares : 0 ≤ (n : Int) - 1 := by omega
    have hsumLo : lo * n ≤ last * ((n : Int) - 1) + value := by
      linarith [mul_le_mul_of_nonneg_right hlo hshares]
    have hsumHi : last * ((n : Int) - 1) + value ≤ hi * n := by
      linarith [mul_le_mul_of_nonneg_right hhi hshares]
    exact tdiv_mem_of_mul_bounds (by omega) hsumLo hsumHi

/-! ### The state of a channel's filter as an option -/

theorem meanLast_of_unset {m : MeanState} (h : m.valid = false) : meanLast m = none := by simp [meanLast, h]

theorem meanLast_of_set {m : MeanState} (h : m.valid = true) : meanLast m = some m.last.toInt := by
  simp [meanLast, h]

/-- No accepted configuration has an empty window (60_exceptions.md R231). -/
theorem one_le_windowOf {s : State} (hc : cfgCheck s.cfg = none) (c : Channel) : 1 ≤ windowOf s c := by
  obtain ⟨hS, hC, -⟩ := (cfgCheck_none_iff s.cfg).1 hc
  cases c
  · exact hS
  · exact hC

/-! ### The word that the operation on a channel writes -/

/-- The word that both `mean[c].last` and the record take (40_mean_filter.md R105, R106). -/
def meanOut (s : State) (c : Channel) : Word :=
  narrow (meanUpdate (windowOf s c) (meanLast (meanOf s c)) (clipOf s c).toInt).2

theorem meanOut_of_unset {s : State} {c : Channel} (h : (meanOf s c).valid = false) : meanOut s c = clipOf s c := by
  simp [meanOut, meanLast_of_unset h]

/-- Between two 32-bit values lies a 32-bit value, so narrowing the quotient loses nothing. -/
theorem toInt_meanOut {s : State} (hc : cfgCheck s.cfg = none) (c : Channel) :
    (meanOut s c).toInt = (meanUpdate (windowOf s c) (meanLast (meanOf s c)) (clipOf s c).toInt).2 := by
  have hlast : ∀ last, meanLast (meanOf s c) = some last → -2 ^ 31 ≤ last ∧ last ≤ 2 ^ 31 - 1 := by
    intro last h
    obtain ⟨-, rfl⟩ : (meanOf s c).valid = true ∧ (meanOf s c).last.toInt = last := by simpa [meanLast] using h
    exact word_toInt_range _
  obtain ⟨hlo, hhi⟩ := meanUpdate_mem (one_le_windowOf hc c) hlast (word_toInt_range (clipOf s c))
  exact narrow_toInt hlo hhi

theorem toInt_meanOut_of_set {s : State} (hc : cfgCheck s.cfg = none) {c : Channel}
    (h : (meanOf s c).valid = true) : (meanOut s c).toInt =
      ((meanOf s c).last.toInt * ((windowOf s c : Int) - 1) + (clipOf s c).toInt).tdiv (windowOf s c) := by
  rw [toInt_meanOut hc, meanLast_of_set h, meanUpdate_some, tdiv_eq_tdiv]

/-! ### The operations -/

theorem exec_meanS {s : State} (hc : cfgCheck s.cfg = none) : exec .meanS s = .next { s with
    meanS := { valid := true, last := meanOut s .S }
    record := { s.record with setClip := meanOut s .S }
    stage := encode (nextStage s.cfg.filterOrder s.pins.tick .meanS) } := exec_valid hc (by decide)

theorem exec_meanC {s : State} (hc : cfgCheck s.cfg = none) : exec .meanC s = .next { s with
    meanC := { valid := true, last := meanOut s .C }
    record := { s.record with curClip := meanOut s .C }
    stage := encode (nextStage s.cfg.filterOrder s.pins.tick .meanC) } := exec_valid hc (by decide)

end Sys2Proof.Machine

open Sys2Proof
open Sys2Proof.Machine

/-- Settles O16: the word written is `meanOut`, which is the input while the filter is unset and else the exact quotient
(`toInt_meanOut_of_set`); the next stage is read off R212 for each order. -/
theorem meanSUpdatesTheSetpointChannel : Obligations.MeanSUpdatesTheSetpointChannel := by
  unfold Obligations.MeanSUpdatesTheSetpointChannel
  intro s hc
  refine ⟨meanOut s .S, ?next, fun h => meanOut_of_unset (c := .S) h, fun h => toInt_meanOut_of_set (c := .S) hc h⟩
  case next =>
    rw [exec_meanS hc]
    cases s.cfg.filterOrder <;> rfl

/-- Settles O17: as O16, on the sensor channel. -/
theorem meanCUpdatesTheSensorChannel : Obligations.MeanCUpdatesTheSensorChannel := by
  unfold Obligations.MeanCUpdatesTheSensorChannel
  intro s hc
  refine ⟨meanOut s .C, ?next, fun h => meanOut_of_unset (c := .C) h, fun h => toInt_meanOut_of_set (c := .C) hc h⟩
  case next =>
    rw [exec_meanC hc]
    cases s.cfg.filterOrder <;> rfl

end

section
/-! PROOFS. The plausibility filter operations PLAUS.S and PLAUS.C (41_plausible_filter.md R121 to R123). -/

namespace Sys2Proof.Machine

/-! ### The state of a channel's filter as an option -/

theorem plausLast_of_unset {p : PlausState} (h : p.valid = false) : plausLast p = none := by simp [plausLast, h]

theorem plausLast_of_set {p : PlausState} (h : p.valid = true) : plausLast p = some p.last.toInt := by
  simp [plausLast, h]

/-- A tolerance is a 16-bit number (10_state.md R38), which is why a count that is kept always fits. -/
theorem failsOf_lt (s : State) (c : Channel) : failsOf s c < 2 ^ 16 := by
  cases c
  · exact s.cfg.failsS.isLt
  · exact s.cfg.failsC.isLt

/-! ### What the operation on a channel writes, in the four cases of R121 -/

/-- The update that the operation on channel `c` makes: the filter's new state and the output. -/
def plausResult (s : State) (c : Channel) : (Option Int × Nat) × Int :=
  plausUpdate (diffOf s c) (failsOf s c) (plausLast (plausOf s c), (plausOf s c).fails.toNat) (clipOf s c).toInt

/-- The filter's registers after the operation. -/
def plausNew (s : State) (c : Channel) : PlausState := plausRegs (plausResult s c).1

/-- The word that the record takes. -/
def plausOut (s : State) (c : Channel) : Word := narrow (plausResult s c).2

section
variable {s : State} {c : Channel}

/-- Where the update takes the input with the count `n`, so do the registers and the record. -/
theorem plausWritten_of_take {n : Nat} (h : plausResult s c = ((some (clipOf s c).toInt, n), (clipOf s c).toInt)) :
    (plausNew s c).last = clipOf s c ∧ plausOut s c = clipOf s c ∧ (plausNew s c).fails = BitVec.ofNat 16 n := by
  simp [plausNew, plausOut, plausRegs, h]

theorem plausWritten_of_unset (hv : (plausOf s c).valid = false) :
    (plausNew s c).last = clipOf s c ∧ plausOut s c = clipOf s c ∧ (plausNew s c).fails = (plausOf s c).fails := by
  have hr : plausResult s c = ((some (clipOf s c).toInt, (plausOf s c).fails.toNat), (clipOf s c).toInt) := by
    rw [plausResult, plausLast_of_unset hv, plausUpdate_none]
  simpa using plausWritten_of_take hr

theorem plausWritten_of_inBand (hv : (plausOf s c).valid = true)
    (hd : ((plausOf s c).last.toInt - (clipOf s c).toInt).natAbs ≤ diffOf s c) :
    (plausNew s c).last = clipOf s c ∧ plausOut s c = clipOf s c ∧ (plausNew s c).fails = 0 := by
  apply plausWritten_of_take (n := 0)
  rw [plausResult, plausLast_of_set hv, plausUpdate_accept hd]

theorem plausWritten_of_force (hv : (plausOf s c).valid = true)
    (hd : diffOf s c < ((plausOf s c).last.toInt - (clipOf s c).toInt).natAbs)
    (hf : failsOf s c < (plausOf s c).fails.toNat + 1) :
    (plausNew s c).last = clipOf s c ∧ plausOut s c = clipOf s c ∧ (plausNew s c).fails = 0 := by
  apply plausWritten_of_take (n := 0)
  rw [plausResult, plausLast_of_set hv, plausUpdate_force hd hf]

/-- The count is stored only while it is within the 16-bit tolerance, so it does not wrap (10_state.md R28). -/
theorem plausWritten_of_reject (hv : (plausOf s c).valid = true)
    (hd : diffOf s c < ((plausOf s c).last.toInt - (clipOf s c).toInt).natAbs)
    (hf : (plausOf s c).fails.toNat + 1 ≤ failsOf s c) :
    (plausNew s c).last = (plausOf s c).last ∧ plausOut s c = (plausOf s c).last ∧
      (plausNew s c).fails.toNat = (plausOf s c).fails.toNat + 1 := by
  have hr : plausResult s c =
      ((some (plausOf s c).last.toInt, (plausOf s c).fails.toNat + 1), (plausOf s c).last.toInt) := by
    rw [plausResult, plausLast_of_set hv, plausUpdate_reject hd hf]
  have hfits : (plausOf s c).fails.toNat + 1 < 2 ^ 16 := hf.trans_lt (failsOf_lt s c)
  simpa [plausNew, plausOut, plausRegs, hr] using hfits

end

/-! ### The operations -/

theorem exec_plausS {s : State} (hc : cfgCheck s.cfg = none) : exec .plausS s = .next { s with
    plausS := plausNew s .S
    record := { s.record with setClip := plausOut s .S }
    stage := encode (nextStage s.cfg.filterOrder s.pins.tick .plausS) } := exec_valid hc (by decide)

theorem exec_plausC {s : State} (hc : cfgCheck s.cfg = none) : exec .plausC s = .next { s with
    plausC := plausNew s .C
    record := { s.record with curClip := plausOut s .C }
    stage := encode (nextStage s.cfg.filterOrder s.pins.tick .plausC) } := exec_valid hc (by decide)

end Sys2Proof.Machine

open Sys2Proof
open Sys2Proof.Machine

/-- Settles O14: what is written is `plausNew` and `plausOut`, given by one lemma for each case of R121; the next stage
is read off R212 for each order. -/
theorem plausSUpdatesTheSetpointChannel : Obligations.PlausSUpdatesTheSetpointChannel := by
  unfold Obligations.PlausSUpdatesTheSetpointChannel
  intro s hc
  refine ⟨(plausNew s .S).last, plausOut s .S, (plausNew s .S).fails, ?next, plausWritten_of_unset (c := .S),
    plausWritten_of_inBand (c := .S), plausWritten_of_force (c := .S), plausWritten_of_reject (c := .S)⟩
  case next =>
    rw [exec_plausS hc]
    cases s.cfg.filterOrder <;> rfl

/-- Settles O15: as O14, on the sensor channel. -/
theorem plausCUpdatesTheSensorChannel : Obligations.PlausCUpdatesTheSensorChannel := by
  unfold Obligations.PlausCUpdatesTheSensorChannel
  intro s hc
  refine ⟨(plausNew s .C).last, plausOut s .C, (plausNew s .C).fails, ?next, plausWritten_of_unset (c := .C),
    plausWritten_of_inBand (c := .C), plausWritten_of_force (c := .C), plausWritten_of_reject (c := .C)⟩
  case next =>
    rw [exec_plausC hc]
    cases s.cfg.filterOrder <;> rfl

end

section
/-! PROOFS. The acquisition and clipping operations ACQ, CLIP.S and CLIP.C (42_acquisition_clip.md R140 to R143). -/

namespace Sys2Proof.Machine

/-! ### `clip` outside its range (R141) -/

theorem clip_of_lt {lo hi x : Int} (h : x < lo) : clip x lo hi = lo := if_pos h

theorem clip_of_gt {lo hi x : Int} (hle : lo ≤ hi) (h : hi < x) : clip x lo hi = hi := by
  unfold clip
  rw [if_neg (by omega), if_pos h]

/-! ### The word that the operation on a channel writes -/

/-- The word that the channel's clip field takes (R142, R143). -/
def clipOut (s : State) (c : Channel) : Word := narrow (clip (rawOf s c).toInt clipMin clipMax)

section
variable {s : State} {c : Channel}

theorem toInt_clipOut_of_neg (h : (rawOf s c).toInt < 0) : (clipOut s c).toInt = 0 := by
  rw [clipOut, clip_of_lt (lo := clipMin) h]
  exact narrow_toInt (by decide) (by decide)

theorem toInt_clipOut_of_gt (h : 4096 < (rawOf s c).toInt) : (clipOut s c).toInt = 4096 := by
  rw [clipOut, clip_of_gt (hi := clipMax) (by decide) h]
  exact narrow_toInt (by decide) (by decide)

theorem clipOut_of_mem (hlo : 0 ≤ (rawOf s c).toInt) (hhi : (rawOf s c).toInt ≤ 4096) :
    clipOut s c = rawOf s c := by
  rw [clipOut, clip_of_mem (lo := clipMin) (hi := clipMax) hlo hhi, narrow_of_toInt]

end

/-! ### The operations -/

theorem exec_acq {s : State} (hc : cfgCheck s.cfg = none) : exec .acq s = .next { s with
    record := { s.record with setRaw := s.pins.adcSet, curRaw := s.pins.adcCur }
    stage := encode (nextStage s.cfg.filterOrder s.pins.tick .acq) } := exec_valid hc (by decide)

theorem exec_clipS {s : State} (hc : cfgCheck s.cfg = none) : exec .clipS s = .next { s with
    record := { s.record with setClip := clipOut s .S }
    stage := encode (nextStage s.cfg.filterOrder s.pins.tick .clipS) } := exec_valid hc (by decide)

theorem exec_clipC {s : State} (hc : cfgCheck s.cfg = none) : exec .clipC s = .next { s with
    record := { s.record with curClip := clipOut s .C }
    stage := encode (nextStage s.cfg.filterOrder s.pins.tick .clipC) } := exec_valid hc (by decide)

end Sys2Proof.Machine

open Sys2Proof
open Sys2Proof.Machine

/-- Settles O12: the next state is the one of `exec_acq`, and the stage after ACQ is CLIP.S for both orders (R212). -/
theorem acqReadsBothSamplePorts : Obligations.AcqReadsBothSamplePorts := by
  unfold Obligations.AcqReadsBothSamplePorts
  intro s hc
  exact exec_acq hc

/-- Settles O13: on each channel the word written is `clipOut`, with one lemma for each of the three ranges of R141; the
stage after CLIP.C is read off R212 for each order. -/
theorem clipSaturatesItsChannel : Obligations.ClipSaturatesItsChannel := by
  unfold Obligations.ClipSaturatesItsChannel
  intro s hc
  constructor
  case left =>
    exact ⟨clipOut s .S, exec_clipS hc, toInt_clipOut_of_neg (c := .S), toInt_clipOut_of_gt (c := .S),
      clipOut_of_mem (c := .S)⟩
  case right =>
    refine ⟨clipOut s .C, ?next, toInt_clipOut_of_neg (c := .C), toInt_clipOut_of_gt (c := .C),
      clipOut_of_mem (c := .C)⟩
    case next =>
      rw [exec_clipC hc]
      cases s.cfg.filterOrder <;> rfl

end

section
/-! PROOFS. The temperature mapping operations MAP.S and MAP.C (43_temperature_mapping.md R155 to R158, R161). -/

namespace Sys2Proof.Machine

/-! ### `map_set` on each of its bands (R155) -/

theorem mapSet_of_mem_low {x : Int} (hlo : 0 ≤ x) (hhi : x ≤ 180) : mapSet x = 5000 := if_pos ⟨hlo, hhi⟩

theorem mapSet_of_mem_mid {x : Int} (hlo : 181 ≤ x) (hhi : x ≤ 660) : mapSet x = 10000 := by
  unfold mapSet
  rw [if_neg (by omega), if_pos ⟨hlo, hhi⟩]

theorem mapSet_of_outside {x : Int} (h : x < 0 ∨ 661 ≤ x) : mapSet x = 15000 := by
  unfold mapSet
  rw [if_neg (by omega), if_neg (by omega)]

/-! ### The readings whose temperature fits 32 bits (R157, R161) -/

theorem mapCur_eq (x : Int) : mapCur x = x * 100 - 4000 := rfl

theorem fitsWord_mapCur_iff (x : Int) : fitsWord (mapCur x) = true ↔ -21474796 ≤ x ∧ x ≤ 21474876 := by
  rw [fitsWord_iff, mapCur_eq]
  omega

/-! ### The words that the operations write -/

/-- The word that `rec.set_mdeg` takes (R156). -/
def mapSOut (s : State) : Word := narrow (mapSet s.record.setClip.toInt)

/-- The word that `rec.cur_mdeg` takes (R158). -/
def mapCOut (s : State) : Word := narrow (mapCur s.record.curClip.toInt)

section
variable {s : State}

theorem toInt_mapSOut_of_mem_low (hlo : 0 ≤ s.record.setClip.toInt) (hhi : s.record.setClip.toInt ≤ 180) :
    (mapSOut s).toInt = 5000 := by
  rw [mapSOut, mapSet_of_mem_low hlo hhi]
  exact narrow_toInt (by decide) (by decide)

theorem toInt_mapSOut_of_mem_mid (hlo : 181 ≤ s.record.setClip.toInt) (hhi : s.record.setClip.toInt ≤ 660) :
    (mapSOut s).toInt = 10000 := by
  rw [mapSOut, mapSet_of_mem_mid hlo hhi]
  exact narrow_toInt (by decide) (by decide)

theorem toInt_mapSOut_of_outside (h : s.record.setClip.toInt < 0 ∨ 661 ≤ s.record.setClip.toInt) :
    (mapSOut s).toInt = 15000 := by
  rw [mapSOut, mapSet_of_outside h]
  exact narrow_toInt (by decide) (by decide)

theorem toInt_mapCOut_of_fitsWord (hf : fitsWord (mapCur s.record.curClip.toInt) = true) :
    (mapCOut s).toInt = mapCur s.record.curClip.toInt := by
  obtain ⟨hlo, hhi⟩ := (fitsWord_iff _).1 hf
  exact narrow_toInt hlo hhi

/-! ### The operations -/

theorem exec_mapS (hc : cfgCheck s.cfg = none) : exec .mapS s = .next { s with
    record := { s.record with setMdeg := mapSOut s }
    stage := encode (nextStage s.cfg.filterOrder s.pins.tick .mapS) } := exec_valid hc (by decide)

theorem exec_mapC_of_fitsWord (hc : cfgCheck s.cfg = none)
    (hf : fitsWord (mapCur s.record.curClip.toInt) = true) : exec .mapC s = .next { s with
    record := { s.record with curMdeg := mapCOut s }
    stage := encode (nextStage s.cfg.filterOrder s.pins.tick .mapC) } := exec_mapC_valid hc hf

end

end Sys2Proof.Machine

open Sys2Proof
open Sys2Proof.Machine

/-- Settles O18: the word written is `mapSOut`, with one lemma for each of the three bands of R155; the stage after MAP.S
is MAP.C for both orders (R212). -/
theorem mapSGivesTheThreeBands : Obligations.MapSGivesTheThreeBands := by
  unfold Obligations.MapSGivesTheThreeBands
  intro s hc
  exact ⟨mapSOut s, exec_mapS hc, toInt_mapSOut_of_mem_low, toInt_mapSOut_of_mem_mid, toInt_mapSOut_of_outside⟩

/-- Settles O19: on the stated range the exact temperature fits 32 bits (`fitsWord_mapCur_iff`), so MAP.C answers and
the word written, `mapCOut`, is that temperature. -/
theorem mapCIsTheAffineMap : Obligations.MapCIsTheAffineMap := by
  unfold Obligations.MapCIsTheAffineMap
  intro s hc hlo hhi
  have hf : fitsWord (mapCur s.record.curClip.toInt) = true := (fitsWord_mapCur_iff _).2 ⟨hlo, hhi⟩
  exact ⟨mapCOut s, exec_mapC_of_fitsWord hc hf, toInt_mapCOut_of_fitsWord hf⟩

end

section
/-! PROOFS. The control operation CTRL (44_control_hysteresis.md R171 to R174). -/

namespace Sys2Proof.Machine

/-! ### The two conditions of the control law (R174) -/

/-- The two thresholds lie on either side of the setpoint, so no temperature meets both. -/
theorem ctrl_conditions_exclusive {h setpoint current : Int} (hpos : 1 ≤ h) :
    ¬ (setpoint + h ≤ current ∧ current ≤ setpoint - h) := by
  rintro ⟨hon, hoff⟩
  have hthresholds : setpoint - h < setpoint + h := by omega
  exact absurd (hon.trans hoff) hthresholds.not_ge

/-! ### The bit that the operation writes -/

/-- The bit that `ctrl.cooling` and `rec.comp` take (R172). -/
def ctrlOut (s : State) : Bool :=
  ctrlStep s.cfg.h.toNat s.cooling s.record.setMdeg.toInt s.record.curMdeg.toInt

section
variable {s : State}

theorem ctrlOut_of_reaches_on (hon : s.record.setMdeg.toInt + s.cfg.h.toNat ≤ s.record.curMdeg.toInt) :
    ctrlOut s = true := ctrlStep_on hon s.cooling

theorem ctrlOut_of_reaches_off (hc : cfgCheck s.cfg = none)
    (hoff : s.record.curMdeg.toInt ≤ s.record.setMdeg.toInt - s.cfg.h.toNat) : ctrlOut s = false := by
  obtain ⟨-, -, hpos, -⟩ := (cfgCheck_none_iff s.cfg).1 hc
  exact ctrlStep_off (by omega) hoff s.cooling

theorem ctrlOut_of_dead_band (hlo : s.record.setMdeg.toInt - s.cfg.h.toNat < s.record.curMdeg.toInt)
    (hhi : s.record.curMdeg.toInt < s.record.setMdeg.toInt + s.cfg.h.toNat) : ctrlOut s = s.cooling :=
  ctrlStep_dead hlo hhi s.cooling

/-! ### The operation -/

theorem exec_ctrl (hc : cfgCheck s.cfg = none) : exec .ctrl s = .next { s with
    cooling := ctrlOut s
    record := { s.record with comp := ctrlOut s }
    stage := encode (nextStage s.cfg.filterOrder s.pins.tick .ctrl) } := exec_valid hc (by decide)

end

end Sys2Proof.Machine

open Sys2Proof
open Sys2Proof.Machine

/-- Settles O21: the bit written is `ctrlOut`, with one lemma for each case of R171 (the cooling-off case needs the
`H ≥ 1` that construction guarantees); the stage after CTRL is ACT for both orders (R212). -/
theorem ctrlFollowsTheTransitionTable : Obligations.CtrlFollowsTheTransitionTable := by
  unfold Obligations.CtrlFollowsTheTransitionTable
  intro s hc
  exact ⟨ctrlOut s, exec_ctrl hc, ctrlOut_of_reaches_on, ctrlOut_of_reaches_off hc, ctrlOut_of_dead_band⟩

/-- Settles O55: the cooling-on test is the first of the law, so its condition alone decides (`ctrlStep_on`); for
`H ≥ 1` the thresholds are apart (`ctrl_conditions_exclusive`). -/
theorem coolingOnTestComesFirst : Obligations.CoolingOnTestComesFirst := by
  unfold Obligations.CoolingOnTestComesFirst
  intro h setpoint current cooling
  constructor
  case left =>
    intro hon _
    exact ctrlStep_on hon cooling
  case right => exact ctrl_conditions_exclusive

end

section
/-! PROOFS. The actuation operation ACT (45_actuation.md R186 to R190). -/

namespace Sys2Proof.Machine

/-! ### The toggle of the phase by the duty divisor (R186, R188) -/

theorem ledToggles_iff (cnt divisor : Nat) : ledToggles cnt divisor = true ↔ cnt % divisor = 0 := decide_eq_true_iff

theorem ledNextPhase_of_mod_eq_zero {cnt divisor : Nat} (h : cnt % divisor = 0) (phase : Bool) :
    ledNextPhase cnt divisor phase = !phase := if_pos ((ledToggles_iff cnt divisor).2 h)

theorem ledNextPhase_of_mod_ne_zero {cnt divisor : Nat} (h : cnt % divisor ≠ 0) (phase : Bool) :
    ledNextPhase cnt divisor phase = phase := if_neg (mt (ledToggles_iff cnt divisor).1 h)

@[simp] theorem dutyDivisor_cooling (idleDiv : Nat) : dutyDivisor true idleDiv = 1 := rfl

@[simp] theorem dutyDivisor_idle (idleDiv : Nat) : dutyDivisor false idleDiv = idleDiv := rfl

/-! ### The phase and the count that the operation writes -/

/-- The phase that `act.led_phase` and `led_o` take (R186). -/
def ledPhaseOut (s : State) : Bool :=
  ledNextPhase s.act.ledCnt.toNat (dutyDivisor s.record.comp (idleDivOf s)) s.act.ledPhase

/-- The count that `act.led_cnt` takes (R186). -/
def ledCntOut (s : State) : Count := BitVec.ofNat 16 ((s.act.ledCnt.toNat + 1) % cntModOf s)

section
variable {s : State}

theorem ledPhaseOut_of_cooling (h : s.record.comp = true) : ledPhaseOut s = !s.act.ledPhase := by
  rw [ledPhaseOut, h, dutyDivisor_cooling]
  exact ledNextPhase_of_mod_eq_zero (Nat.mod_one _) _

theorem ledPhaseOut_of_idle (h : s.record.comp = false) :
    ledPhaseOut s = ledNextPhase s.act.ledCnt.toNat s.cfg.ledIdleDiv.toNat s.act.ledPhase := by
  rw [ledPhaseOut, h, dutyDivisor_idle, idleDivOf]

theorem ledPhaseOut_of_idle_of_mod_eq_zero (h : s.record.comp = false)
    (hmod : s.act.ledCnt.toNat % s.cfg.ledIdleDiv.toNat = 0) : ledPhaseOut s = !s.act.ledPhase :=
  (ledPhaseOut_of_idle h).trans (ledNextPhase_of_mod_eq_zero hmod _)

theorem ledPhaseOut_of_idle_of_mod_ne_zero (h : s.record.comp = false)
    (hmod : s.act.ledCnt.toNat % s.cfg.ledIdleDiv.toNat ≠ 0) : ledPhaseOut s = s.act.ledPhase :=
  (ledPhaseOut_of_idle h).trans (ledNextPhase_of_mod_ne_zero hmod _)

/-- The modulus lies between 1 and 65536 (60_exceptions.md R231), so the 16-bit register holds every remainder. -/
theorem toNat_ledCntOut (hc : cfgCheck s.cfg = none) :
    (ledCntOut s).toNat = (s.act.ledCnt.toNat + 1) % s.cfg.ledCntMod.toNat := by
  obtain ⟨-, -, -, ⟨hpos, hle⟩, -⟩ := (cfgCheck_none_iff s.cfg).1 hc
  have hlt : (s.act.ledCnt.toNat + 1) % s.cfg.ledCntMod.toNat < 2 ^ 16 := (Nat.mod_lt _ hpos).trans_le hle
  rw [ledCntOut, cntModOf, BitVec.toNat_ofNat]
  exact Nat.mod_eq_of_lt hlt

/-! ### The operation -/

theorem exec_act (hc : cfgCheck s.cfg = none) : exec .act s = .next { s with
    lines := { comp := s.record.comp, led := ledPhaseOut s }
    act := { ledPhase := ledPhaseOut s, ledCnt := ledCntOut s }
    stage := encode (nextStage s.cfg.filterOrder s.pins.tick .act) } := exec_valid hc (by decide)

end

end Sys2Proof.Machine

open Sys2Proof
open Sys2Proof.Machine

/-- Settles O22: the phase written is `ledPhaseOut`, with one lemma for each case of command and remainder, and the
count is `ledCntOut`, exact for every accepted modulus; the stage after ACT is TRACE for both orders (R212). -/
theorem actDrivesTheLines : Obligations.ActDrivesTheLines := by
  unfold Obligations.ActDrivesTheLines
  intro s hc
  exact ⟨ledPhaseOut s, ledCntOut s, exec_act hc, ledPhaseOut_of_cooling, ledPhaseOut_of_idle_of_mod_eq_zero,
    ledPhaseOut_of_idle_of_mod_ne_zero, toNat_ledCntOut hc⟩

end

section
/-! PROOFS. The trace operation TRACE and the parts of a temperature (46_trace.md R200, R202). -/

namespace Sys2Proof.Machine

/-! ### The trace ports around an operation -/

@[simp] theorem strobeFall_trace (s : State) : (strobeFall s).trace = { s.trace with valid := false } := rfl

@[simp] theorem hostNext_trace (s : State) : (hostNext s).trace = s.trace := by rw [hostNext_eq]

/-! ### The operations TRACE and IDLE -/

section
variable {s : State}

theorem exec_trace (hc : cfgCheck s.cfg = none) : exec .trace s = .next { s with
    trace := { valid := true, comp := s.record.comp, setMdeg := s.record.setMdeg, curMdeg := s.record.curMdeg }
    stage := encode .idle } := exec_valid hc (by decide)

theorem exec_idle (hc : cfgCheck s.cfg = none) : exec .idle s = .next { s with
    stage := encode (nextStage s.cfg.filterOrder s.pins.tick .idle) } := exec_valid hc (by decide)

/-- IDLE writes no trace port (R213), so its step only lowers the strobe. -/
theorem step_trace_of_idle (hc : cfgCheck s.cfg = none) (hr : s.pins.rst = false) (hs : s.stage = encode .idle) :
    ∃ u, step s = .next u ∧ u.trace = { s.trace with valid := false } := by
  have hfetch : fetch s = .ok .idle := by rw [fetch, hs, decode_encode]
  have hcycle : step s = mapNext hostNext (exec .idle (strobeFall s)) := cycle_run hc hr hfetch
  rw [exec_idle (s := strobeFall s) hc, mapNext_of_next] at hcycle
  exact ⟨_, hcycle, hostNext_trace _⟩

/-- A reset puts the strobe at its reset value 0 (10_state.md R42). -/
theorem step_trace_valid_of_rst (hc : cfgCheck s.cfg = none) (hr : s.pins.rst = true) :
    ∃ u, step s = .next u ∧ u.trace.valid = false := by
  obtain ⟨u, hstep, hu⟩ := step_of_rst hc hr
  refine ⟨u, hstep, ?_⟩
  rw [hu, State.resetOf_trace]

end

/-! ### The parts of a temperature (R202) -/

theorem mdegNegative_iff (t : Int) : mdegNegative t = true ↔ t < 0 := decide_eq_true_iff

theorem mdegFrac_lt (t : Int) : mdegFrac t < 1000 := Nat.mod_lt _ (by decide)

theorem mdegWhole_mul_add_mdegFrac (t : Int) : mdegWhole t * 1000 + mdegFrac t = t.natAbs :=
  Nat.div_add_mod' t.natAbs 1000

/-- The sign apart, what remains of a temperature is its absolute value. -/
theorem sign_mul_natAbs (t : Int) : (if mdegNegative t then -1 else 1) * (t.natAbs : Int) = t := by
  rcases lt_or_ge t 0 with hneg | hnonneg
  · rw [if_pos ((mdegNegative_iff t).2 hneg)]
    omega
  · rw [if_neg (mt (mdegNegative_iff t).1 hnonneg.not_gt)]
    omega

end Sys2Proof.Machine

open Sys2Proof
open Sys2Proof.Machine

/-- Settles O23: TRACE leaves the state of `exec_trace`, in IDLE; the step after it is a reset, which puts the strobe
at 0, or IDLE, which lowers the strobe and writes no trace port. -/
theorem tracePresentsTheRecord : Obligations.TracePresentsTheRecord := by
  unfold Obligations.TracePresentsTheRecord
  intro s hc
  refine ⟨exec_trace hc, ?_⟩
  intro t ht
  have heq := Host.Outcome.next.inj ((exec_trace hc).symm.trans ht)
  have hct : cfgCheck t.cfg = none := by rw [← heq]; exact hc
  have hidle : t.stage = encode .idle := by rw [← heq]
  cases hr : t.pins.rst with
  | true =>
    obtain ⟨u, hstep, hvalid⟩ := step_trace_valid_of_rst hct hr
    exact ⟨u, hstep, hvalid, nofun⟩
  | false =>
    obtain ⟨u, hstep, htrace⟩ := step_trace_of_idle hct hr hidle
    exact ⟨u, hstep, congrArg TracePorts.valid htrace, fun _ => htrace⟩

/-- Settles O57: the whole degrees and the fraction are the quotient and the remainder of the absolute value by 1000,
and the sign times the absolute value is the temperature. -/
theorem temperatureIsMadeOfItsParts : Obligations.TemperatureIsMadeOfItsParts := by
  unfold Obligations.TemperatureIsMadeOfItsParts
  intro t
  have habs : (mdegWhole t : Int) * 1000 + mdegFrac t = t.natAbs := mod_cast mdegWhole_mul_add_mdegFrac t
  refine ⟨?parts, mdegFrac_lt t, mdegNegative_iff t⟩
  case parts => rw [habs, sign_mul_natAbs]

end

section
/-! PROOFS. The next-stage function, and the sequence of an accepted tick (47_sequencer_tick.md R211 to R215). -/

namespace Sys2Proof.Machine

/-! ### What no operation writes -/

@[simp] theorem effect_cfg (i : Instr) (s : State) : (effect i s).cfg = s.cfg := by cases i <;> rfl

@[simp] theorem effect_pins (i : Instr) (s : State) : (effect i s).pins = s.pins := by cases i <;> rfl

@[simp] theorem effect_hostPlan (i : Instr) (s : State) : (effect i s).hostPlan = s.hostPlan := by cases i <;> rfl

@[simp] theorem hostNext_cfg (s : State) : (hostNext s).cfg = s.cfg := by rw [hostNext_eq]

@[simp] theorem hostNext_stage (s : State) : (hostNext s).stage = s.stage := by rw [hostNext_eq]

/-! ### When an operation and a step without reset answer, and what -/

/-- Under an accepted configuration an operation answers, MAP.C only where the temperature fits; the answer is its effect
followed by the next stage. -/
theorem exec_next_iff {i : Instr} {s t : State} : exec i s = .next t ↔
    cfgCheck s.cfg = none ∧ (i = .mapC → fitsWord (mapCur s.record.curClip.toInt) = true) ∧
      t = (effect i s).advance i := by
  constructor
  · intro h
    obtain ⟨hc, ht⟩ := exec_next h
    refine ⟨hc, ?fits, ht⟩
    case fits =>
      rintro rfl
      by_contra hfit
      have hrefuses : exec .mapC s = .refused _ := execMapC_refuses hc (Bool.eq_false_iff.2 hfit)
      cases hrefuses.symm.trans h
  · rintro ⟨hc, hfit, rfl⟩
    by_cases hi : i = .mapC
    · subst hi
      exact exec_mapC_valid hc (hfit rfl)
    · exact exec_valid hc hi

/-- The stage that an operation loads is the one of the next-stage function (R212). -/
theorem exec_next_stage {i : Instr} {s t : State} (h : exec i s = .next t) :
    t.stage = encode (nextStage s.cfg.filterOrder s.pins.tick i) := by
  obtain ⟨-, rfl⟩ := exec_next h
  rw [advance_eq, effect_cfg, effect_pins]

/-- A code that decodes is the code of its operation (30_encoding.md R83). -/
theorem encode_of_decode {c : Code} {i : Instr} (h : decode c = .ok i) : encode i = c := by
  revert c
  cases i <;> decide

/-- A step without reset is the operation that `seq.stage` selects, then the host's next levels. -/
theorem step_next_iff {s t : State} (hr : s.pins.rst = false) : step s = .next t ↔
    ∃ i w, s.stage = encode i ∧ exec i (strobeFall s) = .next w ∧ t = hostNext w := by
  constructor
  · intro h
    obtain ⟨-, ⟨hrst, -⟩ | ⟨-, i, w, hfetch, hexec, ht⟩⟩ := cycle_next h
    · exact absurd hrst (by simp [hr])
    · exact ⟨i, w, (encode_of_decode hfetch).symm, hexec, ht⟩
  · rintro ⟨i, w, hstage, hexec, rfl⟩
    obtain ⟨hc, -⟩ := exec_next hexec
    have hfetch : fetch s = .ok i := by rw [fetch, hstage, decode_encode]
    have hcycle : step s = mapNext hostNext (exec i (strobeFall s)) := cycle_run hc hr hfetch
    rw [hcycle, hexec, mapNext_of_next]

/-! ### Agreement but for the host's side -/

theorem SameButHost.symm {s t : State} (h : SameButHost s t) : SameButHost t s := by
  unfold SameButHost
  rw [h]

theorem SameButHost.trans {s t u : State} (hst : SameButHost s t) (htu : SameButHost t u) : SameButHost s u := by
  calc u = { t with pins := u.pins, hostPlan := u.hostPlan } := htu
    _ = { s with pins := u.pins, hostPlan := u.hostPlan } := by rw [hst]

theorem sameButHost_hostNext (s : State) : SameButHost s (hostNext s) := hostNext_eq s

theorem sameButHost_setPins (s : State) (p : Pins) : SameButHost s (s.setPins p) := rfl

/-! ### The input ports under an operation (R214, R215) -/

/-- No operation but ACQ reads the sample ports, and no effect reads `tick_i`. -/
theorem effect_setPins {i : Instr} {s : State} {p : Pins}
    (hacq : i = .acq → p.adcSet = s.pins.adcSet ∧ p.adcCur = s.pins.adcCur) :
    effect i (s.setPins p) = (effect i s).setPins p := by
  cases i
  case acq =>
    obtain ⟨hset, hcur⟩ := hacq rfl
    simp [effect, acquire, readAdc, State.setRaw, State.setRecord, State.setPins, hset, hcur]
  all_goals rfl

/-- No next stage but that of IDLE depends on whether a tick is accepted (R212). -/
theorem nextStage_of_ne_idle {i : Instr} (hi : i ≠ .idle) (order : FilterOrder) (a b : Bool) :
    nextStage order a i = nextStage order b i := by
  cases i
  case idle => exact absurd rfl hi
  all_goals rfl

/-- Other levels on the ports that an operation does not read are carried through it. -/
theorem exec_setPins {i : Instr} {s t : State} {p : Pins} (h : exec i s = .next t)
    (hidle : i = .idle → p.tick = s.pins.tick)
    (hacq : i = .acq → p.adcSet = s.pins.adcSet ∧ p.adcCur = s.pins.adcCur) :
    exec i (s.setPins p) = .next (t.setPins p) := by
  obtain ⟨hc, hfit, rfl⟩ := exec_next_iff.1 h
  have hnext : nextStage s.cfg.filterOrder p.tick i = nextStage s.cfg.filterOrder s.pins.tick i := by
    by_cases hi : i = .idle
    · rw [hidle hi]
    · exact nextStage_of_ne_idle hi _ _ _
  refine exec_next_iff.2 ⟨hc, hfit, ?answer⟩
  case answer =>
    rw [effect_setPins hacq, advance_eq, advance_eq]
    simp [State.setPins, hnext]

/-- Other levels on the ports that the selected operation does not read change nothing of a step but the host's side. -/
theorem step_setPins {s u : State} {p : Pins} (hr : s.pins.rst = false) (hp : p.rst = false) (h : step s = .next u)
    (hidle : s.stage = encode .idle → p.tick = s.pins.tick)
    (hacq : s.stage = encode .acq → p.adcSet = s.pins.adcSet ∧ p.adcCur = s.pins.adcCur) :
    ∃ v, step (s.setPins p) = .next v ∧ SameButHost u v := by
  obtain ⟨i, w, hstage, hexec, rfl⟩ := (step_next_iff hr).1 h
  have hexec' : exec i ((strobeFall s).setPins p) = .next (w.setPins p) :=
    exec_setPins hexec (fun hi => hidle (hi ▸ hstage)) (fun hi => hacq (hi ▸ hstage))
  refine ⟨hostNext (w.setPins p), (step_next_iff hp).2 ⟨i, w.setPins p, hstage, hexec', rfl⟩, ?same⟩
  case same =>
    exact ((sameButHost_hostNext w).symm.trans (sameButHost_setPins w p)).trans (sameButHost_hostNext _)

/-! ### A channel's readings stay in range (40_mean_filter.md R111; 41_plausible_filter.md R127) -/

/-- The reading that channel `c` holds and those that its two filters keep are in 0 to 4096. -/
structure ChannelInRange (s : State) (c : Channel) : Prop where
  clip : readingInRange (clipOf s c)
  mean : readingInRange (meanOf s c).last
  plaus : readingInRange (plausOf s c).last

section
variable {s : State} {c : Channel}

theorem readingInRange_clipOut (s : State) (c : Channel) : readingInRange (clipOut s c) := by
  have hrange : 0 ≤ clip (rawOf s c).toInt clipMin clipMax ∧ clip (rawOf s c).toInt clipMin clipMax ≤ 4096 :=
    clip_range (by decide) _
  rw [readingInRange, clipOut, narrow_toInt (by omega) (by omega)]
  exact hrange

theorem ChannelInRange.meanOut (h : ChannelInRange s c) (hc : cfgCheck s.cfg = none) :
    readingInRange (meanOut s c) := by
  have hlast : ∀ last, meanLast (meanOf s c) = some last → 0 ≤ last ∧ last ≤ 4096 := by
    intro last hsome
    obtain ⟨-, rfl⟩ : (meanOf s c).valid = true ∧ (meanOf s c).last.toInt = last := by simpa [meanLast] using hsome
    exact h.mean
  rw [readingInRange, toInt_meanOut hc]
  exact meanUpdate_mem (one_le_windowOf hc c) hlast h.clip

/-- The filter's new last value is its output, and that is the reading or the old last value (R127). -/
theorem plausWritten_cases (s : State) (c : Channel) :
    ((plausNew s c).last = clipOf s c ∧ plausOut s c = clipOf s c) ∨
    ((plausNew s c).last = (plausOf s c).last ∧ plausOut s c = (plausOf s c).last) := by
  rcases plausUpdate_cases (diffOf s c) (failsOf s c) (plausLast (plausOf s c), (plausOf s c).fails.toNat)
    (clipOf s c).toInt with htake | ⟨x, hx, -, -, hkeep⟩
  · obtain ⟨hlast, hout, -⟩ := plausWritten_of_take htake
    exact .inl ⟨hlast, hout⟩
  · obtain ⟨-, rfl⟩ : (plausOf s c).valid = true ∧ (plausOf s c).last.toInt = x := by simpa [plausLast] using hx
    exact .inr (by simp [plausNew, plausOut, plausRegs, plausResult, hkeep])

theorem ChannelInRange.plausWritten (h : ChannelInRange s c) :
    readingInRange (plausNew s c).last ∧ readingInRange (plausOut s c) := by
  rcases plausWritten_cases s c with ⟨hlast, hout⟩ | ⟨hlast, hout⟩
  · rw [hlast, hout]
    exact ⟨h.clip, h.clip⟩
  · rw [hlast, hout]
    exact ⟨h.plaus, h.plaus⟩

/-! A write to channel `d` is to be checked only where `d` is the channel looked at. -/

theorem ChannelInRange.setClip {d : Channel} {w : Word} (h : ChannelInRange s c)
    (hw : d = c → readingInRange w) : ChannelInRange (s.setClip d w) c :=
  match d, c, h, hw with
  | .S, .S, h, hw | .C, .C, h, hw => ⟨hw rfl, h.mean, h.plaus⟩
  | .S, .C, h, _ | .C, .S, h, _ => ⟨h.clip, h.mean, h.plaus⟩

theorem ChannelInRange.setMean {d : Channel} {m : MeanState} (h : ChannelInRange s c)
    (hm : d = c → readingInRange m.last) : ChannelInRange (s.setMean d m) c :=
  match d, c, h, hm with
  | .S, .S, h, hm | .C, .C, h, hm => ⟨h.clip, hm rfl, h.plaus⟩
  | .S, .C, h, _ | .C, .S, h, _ => ⟨h.clip, h.mean, h.plaus⟩

theorem ChannelInRange.setPlaus {d : Channel} {p : PlausState} (h : ChannelInRange s c)
    (hp : d = c → readingInRange p.last) : ChannelInRange (s.setPlaus d p) c :=
  match d, c, h, hp with
  | .S, .S, h, hp | .C, .C, h, hp => ⟨h.clip, h.mean, hp rfl⟩
  | .S, .C, h, _ | .C, .S, h, _ => ⟨h.clip, h.mean, h.plaus⟩

theorem ChannelInRange.clipChannel (h : ChannelInRange s c) (d : Channel) : ChannelInRange (clipChannel d s) c :=
  h.setClip fun _ => readingInRange_clipOut s d

theorem ChannelInRange.meanChannel (h : ChannelInRange s c) (hc : cfgCheck s.cfg = none) (d : Channel) :
    ChannelInRange (meanChannel d s) c := by
  have hout : d = c → readingInRange (Machine.meanOut s d) := by
    rintro rfl
    exact h.meanOut hc
  exact (h.setMean hout).setClip hout

theorem ChannelInRange.plausChannel (h : ChannelInRange s c) (d : Channel) : ChannelInRange (plausChannel d s) c := by
  have hwritten : d = c → readingInRange (plausNew s d).last ∧ readingInRange (plausOut s d) := by
    rintro rfl
    exact h.plausWritten
  exact (h.setPlaus fun hd => (hwritten hd).1).setClip fun hd => (hwritten hd).2

/-- Every operation keeps the readings of both channels in range: only the clip, mean and plausibility operations write
one. -/
theorem ChannelInRange.effect (h : ChannelInRange s c) (hc : cfgCheck s.cfg = none) (i : Instr) :
    ChannelInRange (effect i s) c := by
  cases i
  case clipS => exact h.clipChannel .S
  case clipC => exact h.clipChannel .C
  case plausS => exact h.plausChannel .S
  case plausC => exact h.plausChannel .C
  case meanS => exact h.meanChannel hc .S
  case meanC => exact h.meanChannel hc .C
  all_goals exact ⟨h.clip, h.mean, h.plaus⟩

theorem ChannelInRange.strobeFall (h : ChannelInRange s c) : ChannelInRange (strobeFall s) c :=
  ⟨h.clip, h.mean, h.plaus⟩

theorem ChannelInRange.advance (h : ChannelInRange s c) (i : Instr) : ChannelInRange (s.advance i) c :=
  ⟨h.clip, h.mean, h.plaus⟩

theorem ChannelInRange.hostNext (h : ChannelInRange s c) : ChannelInRange (hostNext s) c := by
  rw [hostNext_eq]
  exact ⟨h.clip, h.mean, h.plaus⟩

theorem Inv.channelInRange (h : Inv s) (c : Channel) : ChannelInRange s c := by
  obtain ⟨hmeanS, -⟩ := h.meanS
  obtain ⟨hmeanC, -⟩ := h.meanC
  obtain ⟨hplausS, -⟩ := h.plausS
  obtain ⟨hplausC, -⟩ := h.plausC
  cases c
  · exact ⟨h.setClip, hmeanS, hplausS⟩
  · exact ⟨h.curClip, hmeanC, hplausC⟩

/-! ### Steps without reset -/

/-- The temperature of every reading in range fits 32 bits, so MAP.C does not refuse it (R161). -/
theorem fitsWord_mapCur_of_readingInRange {w : Word} (h : readingInRange w) : fitsWord (mapCur w.toInt) = true := by
  obtain ⟨hlo, hhi⟩ := h
  exact (fitsWord_mapCur_iff _).2 (by omega)

/-- With the sensor channel in range the selected operation answers, MAP.C included. -/
theorem step_of_sensorInRange {i : Instr} (hc : cfgCheck s.cfg = none) (h : ChannelInRange s .C)
    (hr : s.pins.rst = false) (hs : s.stage = encode i) :
    step s = .next (hostNext ((effect i (strobeFall s)).advance i)) :=
  (step_next_iff hr).2 ⟨i, _, hs, exec_next_iff.2 ⟨hc, fun _ => fitsWord_mapCur_of_readingInRange h.clip, rfl⟩, rfl⟩

/-- `rst` is 0 in the next `n` steps: in the present levels and in the host's plan, whose last levels stay. -/
def NoResetFor (n : Nat) (s : State) : Prop := ∀ p ∈ (s.pins :: s.hostPlan).take n, p.rst = false

theorem noResetFor_succ_iff {n : Nat} :
    NoResetFor (n + 1) s ↔ s.pins.rst = false ∧ ∀ p ∈ s.hostPlan.take n, p.rst = false := by
  rw [NoResetFor, List.take_succ_cons, List.forall_mem_cons]

theorem NoResetFor.hostNext {n : Nat} (h : NoResetFor (n + 1) s) : NoResetFor n (hostNext s) := by
  intro p hp
  cases hplan : s.hostPlan with
  | nil =>
    rw [hostNext_nil hplan] at hp
    exact h p (List.take_subset_take_left _ n.le_succ hp)
  | cons q l =>
    rw [hostNext_cons hplan] at hp
    obtain ⟨-, hrest⟩ := noResetFor_succ_iff.1 h
    exact hrest p (by rw [hplan]; exact hp)

/-- A step without reset from a state with the sensor channel in range answers such a state, at the next stage. -/
theorem exists_step_of_sensorInRange {i : Instr} {n : Nat} (hc : cfgCheck s.cfg = none) (h : ChannelInRange s .C)
    (hr : NoResetFor (n + 1) s) (hs : s.stage = encode i) :
    ∃ t, step s = .next t ∧ t.cfg = s.cfg ∧ ChannelInRange t .C ∧ NoResetFor n t ∧
      t.stage = encode (nextStage s.cfg.filterOrder s.pins.tick i) := by
  obtain ⟨hrst, -⟩ := noResetFor_succ_iff.1 hr
  have hquiet : NoResetFor (n + 1) ((effect i (strobeFall s)).advance i) := by
    simpa [NoResetFor, advance_eq, strobeFall_eq] using hr
  refine ⟨_, step_of_sensorInRange hc h hrst hs, ?cfg, ((h.strobeFall.effect hc i).advance i).hostNext,
    hquiet.hostNext, ?stage⟩
  all_goals simp [advance_eq, strobeFall_eq]

end

/-! ### The sequence of a tick (R211) -/

/-- `j` is the stage after `i`, whether a tick is requested or not. -/
def Follows (order : FilterOrder) (i j : Instr) : Prop := ∀ accepted, nextStage order accepted i = j

/-- From the first operation of a chain of the next-stage function the machine runs it, one operation a step. -/
theorem run_of_isChain_follows {order : FilterOrder} {l : List Instr} {i : Instr} {s : State}
    (hl : (i :: l).IsChain (Follows order)) (hc : cfgCheck s.cfg = none) (ho : s.cfg.filterOrder = order)
    (h : ChannelInRange s .C) (hr : NoResetFor l.length s) (hs : s.stage = encode i) {k : Nat} {j : Instr}
    (hk : (i :: l)[k]? = some j) : ∃ t, run k s = .next t ∧ t.stage = encode j := by
  induction l generalizing i s k with
  | nil =>
    cases k with
    | zero =>
      cases hk
      exact ⟨s, run_zero s, hs⟩
    | succ k => cases hk
  | cons i' l ih =>
    obtain ⟨hfollows, hl'⟩ := List.isChain_cons_cons.1 hl
    cases k with
    | zero =>
      cases hk
      exact ⟨s, run_zero s, hs⟩
    | succ k =>
      obtain ⟨t, hstep, hcfg, ht, hrt, hst⟩ := exists_step_of_sensorInRange hc h hr hs
      rw [ho, hfollows] at hst
      obtain ⟨u, hrun, hu⟩ := ih hl' (by rw [hcfg]; exact hc) (by rw [hcfg]; exact ho) ht hrt hst hk
      exact ⟨u, (run_succ hstep k).trans hrun, hu⟩

/-- The operations of a tick after ACQ, and IDLE again. -/
def afterAcq (order : FilterOrder) : List Instr := (tickSequence order).tail ++ [.idle]

theorem length_afterAcq (order : FilterOrder) : (afterAcq order).length = 12 := by
  cases order <;> rfl

theorem tickSequence_append_idle (order : FilterOrder) :
    tickSequence order ++ [.idle] = .acq :: afterAcq order := by
  cases order <;> rfl

/-- The table of R211 follows the next-stage function of R212, to IDLE. -/
theorem isChain_follows_tick (order : FilterOrder) : (Instr.acq :: afterAcq order).IsChain (Follows order) := by
  unfold Follows
  cases order <;> decide

end Sys2Proof.Machine

open Sys2Proof
open Sys2Proof.Machine

/-- Settles O10: the first step is IDLE's and accepts the tick, so ACQ is next; from there the sequence of R211 is a chain
of the next-stage function, which the machine runs one operation a step (`run_of_isChain_follows`). -/
theorem acceptedTickRunsTheTwelveOperationsInOrder : Obligations.AcceptedTickRunsTheTwelveOperationsInOrder := by
  unfold Obligations.AcceptedTickRunsTheTwelveOperationsInOrder
  intro s hinv hidle hrst htick hplan k hk
  have hquiet : NoResetFor 13 s := noResetFor_succ_iff.2 ⟨hrst, hplan⟩
  obtain ⟨t, hstep, hcfg, hrange, hquiet', hacq⟩ :=
    exists_step_of_sensorInRange (i := .idle) hinv.configured (hinv.channelInRange .C) hquiet hidle
  have hc : cfgCheck t.cfg = none := by rw [hcfg]; exact hinv.configured
  have hlen : k < (Instr.acq :: afterAcq s.cfg.filterOrder).length := by
    rw [List.length_cons, length_afterAcq]
    omega
  rw [htick] at hacq
  rw [← length_afterAcq s.cfg.filterOrder] at hquiet'
  obtain ⟨u, hrun, hu⟩ := run_of_isChain_follows (isChain_follows_tick s.cfg.filterOrder) hc
    (congrArg Cfg.filterOrder hcfg) hrange hquiet' hacq (List.getElem?_eq_getElem hlen)
  refine ⟨u, (run_succ hstep k).trans hrun, ?stage⟩
  case stage =>
    rw [hu, tickSequence_append_idle, List.getElem?_map, List.getElem?_eq_getElem hlen, Option.map_some,
      Option.getD_some]

/-- Settles O27: outside IDLE `tick_i` is a port that the selected operation does not read, and outside ACQ the two sample
ports are (`step_setPins`). -/
theorem portsAreIgnoredDuringATick : Obligations.PortsAreIgnoredDuringATick := by
  unfold Obligations.PortsAreIgnoredDuringATick
  intro s u request a b hrst hstep
  constructor
  case left =>
    intro hbusy
    exact step_setPins hrst hrst hstep (fun hidle => absurd hidle hbusy) (fun _ => ⟨rfl, rfl⟩)
  case right =>
    intro hnotAcq
    exact step_setPins hrst hrst hstep (fun _ => rfl) (fun hacq => absurd hacq hnotAcq)

/-- Settles O9: the stage loaded is the one of the next-stage function (`exec_next_stage`), compared with the table row by
row; only the row of IDLE looks at `tick_i`. -/
theorem nextStageFollowsTheTable : Obligations.NextStageFollowsTheTable := by
  unfold Obligations.NextStageFollowsTheTable
  intro i s t h
  rw [exec_next_stage h]
  constructor
  all_goals
    intro horder
    rw [horder]
    cases i
    case idle => cases s.pins.tick <;> decide
    all_goals simp [nextStage, encode]

/-- Settles O11: IDLE writes the next stage alone (`exec_idle`), which is ACQ when the tick is accepted and IDLE when
not. -/
theorem idleAcceptsARequestOrWaits : Obligations.IdleAcceptsARequestOrWaits := by
  unfold Obligations.IdleAcceptsARequestOrWaits
  intro s hc
  constructor
  all_goals
    intro htick
    rw [exec_idle hc, htick]
    rfl

end

section
/-! PROOFS. Construction: the six checks and the widths of the accepted parameters (60_exceptions.md R231). -/

namespace Sys2Proof.Machine

/-! ### The constructor, by the answer of the checks -/

theorem construct_of_rawCheck_some {r : RawConfig} {reason : ConfigReason} (h : rawCheck r = some reason) :
    construct r = .refused (.invalidConfig reason) := by
  rw [construct, h]

theorem construct_of_rawCheck_none {r : RawConfig} (h : rawCheck r = none) :
    construct r = .next (State.resetOf (rawCfg r)) := by
  rw [construct, h]

/-! ### The first failing check -/

section
variable {r : RawConfig}

theorem rawCheck_of_nS_lt_one (h : r.nS < 1) : rawCheck r = some (.windowNotPositive .S) := if_pos h

theorem rawCheck_of_nC_lt_one (hS : 1 ≤ r.nS) (h : r.nC < 1) : rawCheck r = some (.windowNotPositive .C) := by
  rw [rawCheck, if_neg hS.not_gt, if_pos h]

theorem rawCheck_of_h_lt_one (hS : 1 ≤ r.nS) (hC : 1 ≤ r.nC) (h : r.h < 1) :
    rawCheck r = some .halfBandNotPositive := by
  rw [rawCheck, if_neg hS.not_gt, if_neg hC.not_gt, if_pos h]

/-- Past the checks of the window sizes and of the half-band, those of the indicator and of the widths remain. -/
theorem rawCheck_of_positive (hS : 1 ≤ r.nS) (hC : 1 ≤ r.nC) (hH : 1 ≤ r.h) : rawCheck r =
    if r.ledCntMod < 1 ∨ 65536 < r.ledCntMod then some .ledModulusOutOfRange
    else if r.ledIdleDiv < 1 ∨ r.ledCntMod < r.ledIdleDiv then some .ledDivisorOutOfRange
    else if rawFits r then none
    else some .parameterTooWide := by
  rw [rawCheck, if_neg hS.not_gt, if_neg hC.not_gt, if_neg hH.not_gt]

theorem rawCheck_of_ledCntMod_out (hS : 1 ≤ r.nS) (hC : 1 ≤ r.nC) (hH : 1 ≤ r.h)
    (h : ¬ (1 ≤ r.ledCntMod ∧ r.ledCntMod ≤ 65536)) : rawCheck r = some .ledModulusOutOfRange := by
  rw [rawCheck_of_positive hS hC hH, if_pos (by omega)]

theorem rawCheck_of_ledIdleDiv_out (hS : 1 ≤ r.nS) (hC : 1 ≤ r.nC) (hH : 1 ≤ r.h)
    (hM : 1 ≤ r.ledCntMod ∧ r.ledCntMod ≤ 65536) (h : ¬ (1 ≤ r.ledIdleDiv ∧ r.ledIdleDiv ≤ r.ledCntMod)) :
    rawCheck r = some .ledDivisorOutOfRange := by
  rw [rawCheck_of_positive hS hC hH, if_neg (by omega), if_pos (by omega)]

theorem rawCheck_of_not_rawFits (hS : 1 ≤ r.nS) (hC : 1 ≤ r.nC) (hH : 1 ≤ r.h)
    (hM : 1 ≤ r.ledCntMod ∧ r.ledCntMod ≤ 65536) (hD : 1 ≤ r.ledIdleDiv ∧ r.ledIdleDiv ≤ r.ledCntMod)
    (h : ¬ rawFits r = true) : rawCheck r = some .parameterTooWide := by
  rw [rawCheck_of_positive hS hC hH, if_neg (by omega), if_neg (by omega), if_neg h]

end

/-! ### The accepted parameters at their widths (10_state.md R38) -/

/-- Check 6 by the largest value of each width. -/
theorem rawFits_iff_le (r : RawConfig) : rawFits r = true ↔
    r.nS ≤ 65535 ∧ r.nC ≤ 65535 ∧ r.diffS ≤ 4294967295 ∧ r.failsS ≤ 65535 ∧ r.diffC ≤ 4294967295 ∧
    r.failsC ≤ 65535 ∧ r.h ≤ 2147483647 := by
  rw [rawFits_iff]
  omega

/-- An integer that an unsigned field can hold is read back from it. -/
theorem toNat_ofInt_of_lt {w : Nat} {x : Int} (h0 : 0 ≤ x) (hlt : x < 2 ^ w) :
    ((BitVec.ofInt w x).toNat : Int) = x := by
  have hmod : x % (2 ^ w : Nat) = x := Int.emod_eq_of_lt h0 (mod_cast hlt)
  rw [BitVec.toNat_ofInt, hmod, Int.toNat_of_nonneg h0]

/-- No accepted parameter is cut: each is read back whole from its field. -/
theorem cfgRaw_rawCfg {r : RawConfig} (h : rawCheck r = none) : cfgRaw (rawCfg r) = r := by
  obtain ⟨hS, hC, hH, ⟨hM, hM'⟩, ⟨hD, hD'⟩, hfits⟩ := (rawCheck_none_iff r).1 h
  obtain ⟨hS', hC', hdiffS, hfailsS, hdiffC, hfailsC, hH'⟩ := (rawFits_iff r).1 hfits
  have hnS := toNat_ofInt_of_lt (w := 16) (by omega) hS'
  have hnC := toNat_ofInt_of_lt (w := 16) (by omega) hC'
  have hh := toNat_ofInt_of_lt (w := 31) (by omega) hH'
  have hmod : ((BitVec.ofInt 17 r.ledCntMod).toNat : Int) = r.ledCntMod := toNat_ofInt_of_lt (by omega) (by omega)
  have hdiv : ((BitVec.ofInt 17 r.ledIdleDiv).toNat : Int) = r.ledIdleDiv := toNat_ofInt_of_lt (by omega) (by omega)
  simp only [cfgRaw, rawCfg, hnS, hnC, hh, hmod, hdiv, BitVec.toNat_ofNat, Nat.mod_eq_of_lt hdiffS,
    Nat.mod_eq_of_lt hfailsS, Nat.mod_eq_of_lt hdiffC, Nat.mod_eq_of_lt hfailsC]

end Sys2Proof.Machine

open Sys2Proof
open Sys2Proof.Machine

/-- Settles O2: each refusal is the lemma on its check, given that the checks before it passed; a set that passes all
six gives the reset state of its configuration, which reads back as that set (`cfgRaw_rawCfg`). -/
theorem constructionReportsTheFirstFailingCheck : Obligations.ConstructionReportsTheFirstFailingCheck := by
  unfold Obligations.ConstructionReportsTheFirstFailingCheck
  intro r
  refine ⟨?windowS, ?windowC, ?halfBand, ?modulus, ?divisor, ?widths, ?accepted, ?codes⟩
  case windowS =>
    intro h
    exact construct_of_rawCheck_some (rawCheck_of_nS_lt_one h)
  case windowC =>
    intro hS h
    exact construct_of_rawCheck_some (rawCheck_of_nC_lt_one hS h)
  case halfBand =>
    intro hS hC h
    exact construct_of_rawCheck_some (rawCheck_of_h_lt_one hS hC h)
  case modulus =>
    intro hS hC hH h
    exact construct_of_rawCheck_some (rawCheck_of_ledCntMod_out hS hC hH h)
  case divisor =>
    intro hS hC hH hM hM' h
    exact construct_of_rawCheck_some (rawCheck_of_ledIdleDiv_out hS hC hH ⟨hM, hM'⟩ h)
  case widths =>
    intro hS hC hH hM hM' hD hD' h
    exact construct_of_rawCheck_some
      (rawCheck_of_not_rawFits hS hC hH ⟨hM, hM'⟩ ⟨hD, hD'⟩ (mt (rawFits_iff_le r).1 h))
  case accepted =>
    intro hS hC hH hM hM' hD hD' hS' hC' hdiffS hfailsS hdiffC hfailsC hH'
    have hfits : rawFits r = true := (rawFits_iff_le r).2 ⟨hS', hC', hdiffS, hfailsS, hdiffC, hfailsC, hH'⟩
    have hcheck : rawCheck r = none := (rawCheck_none_iff r).2 ⟨hS, hC, hH, ⟨hM, hM'⟩, ⟨hD, hD'⟩, hfits⟩
    exact ⟨_, construct_of_rawCheck_none hcheck, cfgRaw_rawCfg hcheck⟩
  case codes => rfl

end

section
/-! PROOFS. What each operation and each step may write (10_state.md R21 to R38), and what follows from that alone. -/

namespace Sys2Proof.Machine

/-! ### The only writers of each element -/

section
variable {i : Instr} (s : State)

theorem effect_raw_of_ne_acq (h : i ≠ .acq) :
    (effect i s).record.setRaw = s.record.setRaw ∧ (effect i s).record.curRaw = s.record.curRaw := by
  cases i
  case acq => exact absurd rfl h
  all_goals exact ⟨rfl, rfl⟩

theorem effect_setClip_of_notMem (h : i ∉ [Instr.clipS, .plausS, .meanS]) :
    (effect i s).record.setClip = s.record.setClip := by
  cases i
  case clipS | plausS | meanS => simp at h
  all_goals rfl

theorem effect_curClip_of_notMem (h : i ∉ [Instr.clipC, .plausC, .meanC]) :
    (effect i s).record.curClip = s.record.curClip := by
  cases i
  case clipC | plausC | meanC => simp at h
  all_goals rfl

theorem effect_setMdeg_of_ne_mapS (h : i ≠ .mapS) : (effect i s).record.setMdeg = s.record.setMdeg := by
  cases i
  case mapS => exact absurd rfl h
  all_goals rfl

theorem effect_curMdeg_of_ne_mapC (h : i ≠ .mapC) : (effect i s).record.curMdeg = s.record.curMdeg := by
  cases i
  case mapC => exact absurd rfl h
  all_goals rfl

theorem effect_command_of_ne_ctrl (h : i ≠ .ctrl) :
    (effect i s).record.comp = s.record.comp ∧ (effect i s).cooling = s.cooling := by
  cases i
  case ctrl => exact absurd rfl h
  all_goals exact ⟨rfl, rfl⟩

theorem effect_meanS_of_ne_meanS (h : i ≠ .meanS) : (effect i s).meanS = s.meanS := by
  cases i
  case meanS => exact absurd rfl h
  all_goals rfl

theorem effect_meanC_of_ne_meanC (h : i ≠ .meanC) : (effect i s).meanC = s.meanC := by
  cases i
  case meanC => exact absurd rfl h
  all_goals rfl

theorem effect_plausS_of_ne_plausS (h : i ≠ .plausS) : (effect i s).plausS = s.plausS := by
  cases i
  case plausS => exact absurd rfl h
  all_goals rfl

theorem effect_plausC_of_ne_plausC (h : i ≠ .plausC) : (effect i s).plausC = s.plausC := by
  cases i
  case plausC => exact absurd rfl h
  all_goals rfl

theorem effect_actuation_of_ne_act (h : i ≠ .act) : (effect i s).act = s.act ∧ (effect i s).lines = s.lines := by
  cases i
  case act => exact absurd rfl h
  all_goals exact ⟨rfl, rfl⟩

theorem effect_trace_of_ne_trace (h : i ≠ .trace) : (effect i s).trace = s.trace := by
  cases i
  case trace => exact absurd rfl h
  all_goals rfl

end

/-! ### The filter of a channel is written by its operation or not at all -/

section
variable (i : Instr) (s : State) (c : Channel)

theorem meanOf_effect_cases :
    meanOf (effect i s) c = meanOf s c ∨ meanOf (effect i s) c = { valid := true, last := meanOut s c } := by
  cases c with
  | S =>
    by_cases hi : i = .meanS
    · rw [hi]; exact .inr rfl
    · exact .inl (effect_meanS_of_ne_meanS s hi)
  | C =>
    by_cases hi : i = .meanC
    · rw [hi]; exact .inr rfl
    · exact .inl (effect_meanC_of_ne_meanC s hi)

theorem plausOf_effect_cases : plausOf (effect i s) c = plausOf s c ∨ plausOf (effect i s) c = plausNew s c := by
  cases c with
  | S =>
    by_cases hi : i = .plausS
    · rw [hi]; exact .inr rfl
    · exact .inl (effect_plausS_of_ne_plausS s hi)
  | C =>
    by_cases hi : i = .plausC
    · rw [hi]; exact .inr rfl
    · exact .inl (effect_plausC_of_ne_plausC s hi)

theorem meanOf_effect_valid (h : (meanOf s c).valid = true) : (meanOf (effect i s) c).valid = true := by
  rcases meanOf_effect_cases i s c with hsame | hnew
  · rwa [hsame]
  · rw [hnew]

theorem plausOf_effect_valid (h : (plausOf s c).valid = true) : (plausOf (effect i s) c).valid = true := by
  rcases plausOf_effect_cases i s c with hsame | hnew
  · rwa [hsame]
  · rw [hnew]
    rfl

end

/-! ### The step as one function of the selected operation -/

/-- The state after a step that runs operation `i`: the strobe falls, the effect, the next stage, the host's levels. -/
def afterOp (i : Instr) (s : State) : State := hostNext ((effect i (strobeFall s)).advance i)

section
variable (i : Instr) (s : State)

@[simp] theorem afterOp_cfg : (afterOp i s).cfg = s.cfg := by simp [afterOp, advance_eq, strobeFall_eq]
@[simp] theorem afterOp_stage :
    (afterOp i s).stage = encode (nextStage s.cfg.filterOrder s.pins.tick i) := by
  simp [afterOp, advance_eq, strobeFall_eq]
@[simp] theorem afterOp_record : (afterOp i s).record = (effect i s).record := by
  rw [afterOp, hostNext_eq]
  cases i <;> rfl
@[simp] theorem afterOp_meanS : (afterOp i s).meanS = (effect i s).meanS := by
  rw [afterOp, hostNext_eq]
  cases i <;> rfl
@[simp] theorem afterOp_meanC : (afterOp i s).meanC = (effect i s).meanC := by
  rw [afterOp, hostNext_eq]
  cases i <;> rfl
@[simp] theorem afterOp_plausS : (afterOp i s).plausS = (effect i s).plausS := by
  rw [afterOp, hostNext_eq]
  cases i <;> rfl
@[simp] theorem afterOp_plausC : (afterOp i s).plausC = (effect i s).plausC := by
  rw [afterOp, hostNext_eq]
  cases i <;> rfl
@[simp] theorem afterOp_cooling : (afterOp i s).cooling = (effect i s).cooling := by
  rw [afterOp, hostNext_eq]
  cases i <;> rfl
@[simp] theorem afterOp_act : (afterOp i s).act = (effect i s).act := by
  rw [afterOp, hostNext_eq]
  cases i <;> rfl
@[simp] theorem afterOp_lines : (afterOp i s).lines = (effect i s).lines := by
  rw [afterOp, hostNext_eq]
  cases i <;> rfl
@[simp] theorem afterOp_trace : (afterOp i s).trace = (effect i (strobeFall s)).trace := by
  rw [afterOp, hostNext_trace, advance_eq]

end

/-- A step without reset that answers a next state ran the operation that `seq.stage` selects. -/
theorem step_next_afterOp {s t : State} (hr : s.pins.rst = false) (h : step s = .next t) :
    ∃ i, s.stage = encode i ∧ t = afterOp i s := by
  obtain ⟨i, w, hstage, hexec, rfl⟩ := (step_next_iff hr).1 h
  obtain ⟨-, rfl⟩ := exec_next hexec
  exact ⟨i, hstage, rfl⟩

/-- Every operation but MAP.C answers in its step. -/
theorem step_of_ne_mapC {s : State} {i : Instr} (hc : cfgCheck s.cfg = none) (hr : s.pins.rst = false)
    (hs : s.stage = encode i) (hi : i ≠ .mapC) : step s = .next (afterOp i s) :=
  (step_next_iff hr).2 ⟨i, _, hs, exec_valid hc hi, rfl⟩

/-! ### Two states that agree but for the indicator (45_actuation.md R191) -/

section
variable {s t : State}

theorem SameButIndicator.effect (h : SameButIndicator s t) (i : Instr) :
    SameButIndicator (effect i s) (effect i t) := by
  unfold SameButIndicator at *
  rw [h]
  cases i <;> rfl

theorem SameButIndicator.strobeFall (h : SameButIndicator s t) : SameButIndicator (strobeFall s) (strobeFall t) := by
  unfold SameButIndicator at *
  rw [h]
  rfl

theorem SameButIndicator.advance (h : SameButIndicator s t) (i : Instr) :
    SameButIndicator (s.advance i) (t.advance i) := by
  unfold SameButIndicator at *
  rw [h]
  rfl

theorem SameButIndicator.hostNext (h : SameButIndicator s t) : SameButIndicator (hostNext s) (hostNext t) := by
  have hplan : t.hostPlan = s.hostPlan := by rw [h]
  unfold SameButIndicator at *
  cases hs : s.hostPlan with
  | nil => rw [hostNext_nil hs, hostNext_nil (hplan.trans hs), h]
  | cons p l => rw [hostNext_cons hs, hostNext_cons (hplan.trans hs), h]

/-- Reset puts the indicator of both at the same values. -/
theorem SameButIndicator.applyReset_eq (h : SameButIndicator s t) : applyReset t = applyReset s := by
  rw [h]
  rfl

/-- An operation that answers on one answers on the other: only MAP.C can refuse, and it looks at the reading. -/
theorem SameButIndicator.exec {u : State} {i : Instr} (h : SameButIndicator s t) (hexec : exec i s = .next u) :
    ∃ v, Machine.exec i t = .next v ∧ SameButIndicator u v := by
  obtain ⟨hc, hfit, rfl⟩ := exec_next_iff.1 hexec
  have hcfg : t.cfg = s.cfg := by rw [h]
  have hrecord : t.record = s.record := by rw [h]
  exact ⟨_, exec_next_iff.2 ⟨hcfg ▸ hc, hrecord ▸ hfit, rfl⟩, (h.effect i).advance i⟩

theorem SameButIndicator.step {u : State} (h : SameButIndicator s t) (hstep : step s = .next u) :
    ∃ v, Machine.step t = .next v ∧ SameButIndicator u v := by
  have hcfg : t.cfg = s.cfg := by rw [h]
  have hpins : t.pins = s.pins := by rw [h]
  have hstage : t.stage = s.stage := by rw [h]
  cases hr : s.pins.rst with
  | true =>
    obtain ⟨hc, ⟨-, rfl⟩ | ⟨hr', -⟩⟩ := cycle_next hstep
    · exact ⟨_, cycle_reset (hcfg ▸ hc) (hpins ▸ hr), by rw [h.applyReset_eq]⟩
    · exact absurd (hr.symm.trans hr') (by decide)
  | false =>
    obtain ⟨i, w, hs, hexec, rfl⟩ := (step_next_iff hr).1 hstep
    obtain ⟨v, hv, hsame⟩ := h.strobeFall.exec hexec
    exact ⟨_, (step_next_iff (hpins ▸ hr)).2 ⟨i, v, hstage.trans hs, hv, rfl⟩, hsame.hostNext⟩

end

/-! ### The two channels (10_state.md R29) -/

/-- An operation of the setpoint channel neither reads nor writes what one of the sensor channel does, `seq.stage`
apart. -/
theorem effect_comm {i j : Instr} (hi : i ∈ [Instr.clipS, .plausS, .meanS]) (hj : j ∈ [Instr.clipC, .plausC, .meanC])
    (s : State) (c d : Code) :
    effect i ((effect j s).setStage c) = (effect j ((effect i s).setStage d)).setStage c := by
  simp only [List.mem_cons, List.not_mem_nil, or_false] at hi hj
  rcases hi with rfl | rfl | rfl
  all_goals
    rcases hj with rfl | rfl | rfl
    all_goals simp [effect, clipChannel, plausChannel, meanChannel, State.setStage, State.setClip, State.setPlaus,
      State.setMean, State.setRecord, rawOf, clipOf, meanOf, plausOf, windowOf, diffOf, failsOf]

end Sys2Proof.Machine

open Sys2Proof
open Sys2Proof.Machine

/-- Settles O29, by induction on the number of steps: each step carries agreement but for the indicator over to the next
states (`SameButIndicator.step`). -/
theorem indicatorInfluencesNothingElse : Obligations.IndicatorInfluencesNothingElse := by
  unfold Obligations.IndicatorInfluencesNothingElse
  intro k
  induction k with
  | zero =>
    intro s t u hsame hrun
    cases hrun
    exact ⟨t, run_zero t, hsame⟩
  | succ k ih =>
    intro s t u hsame hrun
    obtain ⟨s', hstep, hrest⟩ := run_succ_next hrun
    obtain ⟨t', hstep', hsame'⟩ := hsame.step hstep
    obtain ⟨v, hrun', hv⟩ := ih s' t' u hsame' hrest
    exact ⟨v, (run_succ hstep' k).trans hrun', hv⟩

/-- Settles O24: the step is that of the selected operation (`step_next_afterOp`), and each element is left alone by
the operations that are not its writers. -/
theorem eachElementChangesOnlyByItsWriters : Obligations.EachElementChangesOnlyByItsWriters := by
  unfold Obligations.EachElementChangesOnlyByItsWriters
  intro s t i hrst hdecode hstep
  obtain ⟨j, hstage, rfl⟩ := step_next_afterOp hrst hstep
  obtain rfl : i = j := by
    rw [hstage, decode_encode] at hdecode
    cases hdecode
    rfl
  refine ⟨afterOp_cfg i s, ?_⟩
  simp only [afterOp_record, afterOp_meanS, afterOp_meanC, afterOp_plausS, afterOp_plausC, afterOp_cooling,
    afterOp_act, afterOp_lines, afterOp_trace]
  refine ⟨effect_raw_of_ne_acq s, effect_setClip_of_notMem s, effect_curClip_of_notMem s,
    effect_setMdeg_of_ne_mapS s, effect_curMdeg_of_ne_mapC s, effect_command_of_ne_ctrl s, effect_meanS_of_ne_meanS s,
    effect_meanC_of_ne_meanC s, effect_plausS_of_ne_plausS s, effect_plausC_of_ne_plausC s,
    effect_actuation_of_ne_act s, ?trace⟩
  case trace =>
    intro hi
    rw [effect_trace_of_ne_trace _ hi]
    exact ⟨rfl, rfl, rfl, rfl⟩

/-- Settles O25: a valid bit is written by its filter's operation alone, which sets it. -/
theorem validBitsFallOnlyByReset : Obligations.ValidBitsFallOnlyByReset := by
  unfold Obligations.ValidBitsFallOnlyByReset
  intro s t hrst hstep
  obtain ⟨i, -, rfl⟩ := step_next_afterOp hrst hstep
  simp only [afterOp_meanS, afterOp_meanC, afterOp_plausS, afterOp_plausC]
  exact ⟨meanOf_effect_valid i s .S, meanOf_effect_valid i s .C, plausOf_effect_valid i s .S,
    plausOf_effect_valid i s .C⟩

/-- Settles O28: none of the six operations is MAP.C, so both orders answer, and the effects commute
(`effect_comm`). -/
theorem channelOperationsCommute : Obligations.ChannelOperationsCommute := by
  unfold Obligations.ChannelOperationsCommute
  intro s i j hc hi hj
  have hi' : i ≠ .mapC := by rintro rfl; simp at hi
  have hj' : j ≠ .mapC := by rintro rfl; simp at hj
  have hci : cfgCheck ((effect i s).advance i).cfg = none := by simpa [advance_eq] using hc
  have hcj : cfgCheck ((effect j s).advance j).cfg = none := by simpa [advance_eq] using hc
  refine ⟨_, _, _, _, exec_valid hc hi', exec_valid hci hj', exec_valid hc hj', exec_valid hcj hi', ?same⟩
  case same =>
    unfold State.advance
    rw [effect_comm hi hj]
    rfl

/-- Settles O26: TRACE's step raises the strobe and loads IDLE; the step after it is a reset or that of IDLE, and both
lower the strobe. -/
theorem strobePulsesForOneStep : Obligations.StrobePulsesForOneStep := by
  unfold Obligations.StrobePulsesForOneStep
  intro s hinv hrst hstage
  have hstep : step s = .next (afterOp .trace s) := step_of_ne_mapC hinv.configured hrst hstage (by decide)
  have hvalid : (afterOp .trace s).trace.valid = true := by
    rw [afterOp_trace]
    rfl
  have hc : cfgCheck (afterOp .trace s).cfg = none := by
    rw [afterOp_cfg]
    exact hinv.configured
  cases hr : (afterOp .trace s).pins.rst with
  | true =>
    obtain ⟨u, hu, hfall⟩ := step_trace_valid_of_rst hc hr
    exact ⟨_, u, hstep, hvalid, hu, hfall⟩
  | false =>
    obtain ⟨u, hu, htrace⟩ := step_trace_of_idle hc hr (afterOp_stage .trace s)
    exact ⟨_, u, hstep, hvalid, hu, congrArg TracePorts.valid htrace⟩

end

section
/-! PROOFS. The invariant: it holds after reset, every step keeps it, and from it every step answers. -/

namespace Sys2Proof.Machine

/-! ### The assigned codes (30_encoding.md R83, R86) -/

theorem codeAssigned_encode (i : Instr) : codeAssigned (encode i) = true := by
  cases i <;> rfl

theorem encode_injective {i j : Instr} (h : encode i = encode j) : i = j := by
  have hdecode := congrArg decode h
  rw [decode_encode, decode_encode] at hdecode
  cases hdecode
  rfl

theorem exists_encode_of_codeAssigned {c : Code} (h : codeAssigned c = true) : ∃ i, c = encode i := by
  have hok : ∀ c : Code, codeAssigned c = true → (decode c).isOk = true := by decide
  cases hdecode : decode c with
  | ok i => exact ⟨i, (encode_of_decode hdecode).symm⟩
  | error e =>
    have hc := hok c h
    rw [hdecode] at hc
    cases hc

/-- Before and at MAP.S the next stage is at most MAP.S, that of MAP.S itself apart. -/
theorem nextStage_toNat_le_eight {i : Instr} (hi : i ≠ .mapS) (hle : (encode i).toNat ≤ 8) (order : FilterOrder)
    (accepted : Bool) : (encode (nextStage order accepted i)).toNat ≤ 8 := by
  cases i
  case mapS => exact absurd rfl hi
  case idle => cases accepted <;> simp [nextStage, encode]
  case clipC | plausS | plausC | meanS | meanC => cases order <;> simp [nextStage, encode]
  case acq | clipS => simp [nextStage, encode]
  case mapC | ctrl | act | trace => exact absurd hle (by decide)

/-- The operations after which the trace still has to show the setpoint temperature of the record. -/
theorem of_nextStage_toNat_le_eight {i : Instr} {order : FilterOrder} {accepted : Bool}
    (h : (encode (nextStage order accepted i)).toNat ≤ 8) (hi : i ≠ .trace) : i ≠ .mapS ∧ (encode i).toNat ≤ 8 := by
  cases i
  case trace => exact absurd rfl hi
  case mapS | mapC | ctrl | act => simp [nextStage, encode] at h
  all_goals exact ⟨by decide, by decide⟩

/-- The operations after which the trace still has to show the sensor temperature of the record. -/
theorem of_nextStage_toNat_le_nine {i : Instr} {order : FilterOrder} {accepted : Bool}
    (h : (encode (nextStage order accepted i)).toNat ≤ 9) (hi : i ≠ .trace) : i ≠ .mapC ∧ (encode i).toNat ≤ 9 := by
  cases i
  case trace => exact absurd rfl hi
  case mapC | ctrl | act => simp [nextStage, encode] at h
  all_goals exact ⟨by decide, by decide⟩

/-! ### What the operations write is in its range -/

theorem mapSet_cases (x : Int) : mapSet x = 5000 ∨ mapSet x = 10000 ∨ mapSet x = 15000 := by
  unfold mapSet
  split_ifs <;> simp

theorem mapSOut_cases (s : State) : mapSOut s = 5000 ∨ mapSOut s = 10000 ∨ mapSOut s = 15000 := by
  unfold mapSOut
  rcases mapSet_cases s.record.setClip.toInt with h | h | h
  all_goals
    rw [h]
    decide

/-- 43_temperature_mapping.md R160. -/
theorem toInt_mapCOut_range {s : State} (h : readingInRange s.record.curClip) :
    -4000 ≤ (mapCOut s).toInt ∧ (mapCOut s).toInt ≤ 405600 ∧ (mapCOut s).toInt % 100 = 0 := by
  obtain ⟨hlo, hhi⟩ := h
  rw [toInt_mapCOut_of_fitsWord (fitsWord_mapCur_of_readingInRange ⟨hlo, hhi⟩), mapCur_eq]
  omega

/-- 10_state.md R27: a count that is stored is one that was, or 0, or within the tolerance. -/
theorem plausUpdate_fails_le {diff numFails : Nat} {st : Option Int × Nat} (value : Int) (h : st.2 ≤ numFails) :
    (plausUpdate diff numFails st value).1.2 ≤ numFails := by
  rcases plausUpdate_cases diff numFails st value with htake | ⟨x, -, -, hle, hkeep⟩
  · rw [htake]
    dsimp only
    split
    · exact h
    · exact numFails.zero_le
  · rw [hkeep]
    exact hle

theorem toNat_plausNew_fails_le {s : State} {c : Channel} (h : (plausOf s c).fails.toNat ≤ failsOf s c) :
    (plausNew s c).fails.toNat ≤ failsOf s c := by
  have hle := plausUpdate_fails_le (diff := diffOf s c)
    (st := (plausLast (plausOf s c), (plausOf s c).fails.toNat)) (clipOf s c).toInt h
  rw [plausNew, plausRegs, BitVec.toNat_ofNat]
  exact (Nat.mod_le _ _).trans hle

/-- The registers of the two filters of channel `c` are as the spec infers them between operations: in range, 0 while
unset, the count within the tolerance (10_state.md R25, R27). -/
def FiltersOk (s : State) (c : Channel) : Prop := MeanOk (meanOf s c) ∧ PlausOk (failsOf s c) (plausOf s c)

theorem failsOf_effect (i : Instr) (s : State) (c : Channel) : failsOf (effect i s) c = failsOf s c := by
  cases c <;> simp [failsOf]

theorem FiltersOk.effect {s : State} {c : Channel} (h : FiltersOk s c) (hrange : ChannelInRange s c)
    (hc : cfgCheck s.cfg = none) (i : Instr) : FiltersOk (effect i s) c := by
  obtain ⟨hmean, hplaus⟩ := h
  constructor
  · rcases meanOf_effect_cases i s c with hsame | hnew
    · rwa [hsame]
    · rw [hnew]
      exact ⟨hrange.meanOut hc, nofun⟩
  · rw [failsOf_effect]
    rcases plausOf_effect_cases i s c with hsame | hnew
    · rwa [hsame]
    · rw [hnew]
      obtain ⟨-, -, hfails⟩ := hplaus
      obtain ⟨hlast, -⟩ := hrange.plausWritten
      exact ⟨hlast, nofun, toNat_plausNew_fails_le hfails⟩

/-! ### `Inv` and the host's side, and after reset -/

theorem Inv.of_sameButHost {s t : State} (h : Inv s) (hsame : SameButHost s t) : Inv t := by
  rw [hsame]
  exact { h with }

theorem inv_resetOf {c : Cfg} (hc : cfgCheck c = none) : Inv (State.resetOf c) := by
  obtain ⟨-, -, -, ⟨hmod, -⟩, -⟩ := (cfgCheck_none_iff c).1 hc
  have hzero : readingInRange 0 := by decide
  have hmdeg : -4000 ≤ (0 : Word).toInt ∧ (0 : Word).toInt ≤ 405600 ∧ (0 : Word).toInt % 100 = 0 := by decide
  exact {
    configured := hc
    stageAssigned := rfl
    setClip := hzero
    curClip := hzero
    setMdeg := .inl ⟨rfl, Nat.zero_le 8⟩
    curMdeg := hmdeg
    meanS := ⟨hzero, fun _ => rfl⟩
    meanC := ⟨hzero, fun _ => rfl⟩
    plausS := ⟨hzero, fun _ => ⟨rfl, rfl⟩, Nat.zero_le _⟩
    plausC := ⟨hzero, fun _ => ⟨rfl, rfl⟩, Nat.zero_le _⟩
    command := rfl
    count := hmod
    led := rfl
    line := fun _ => rfl
    traceComp := fun _ => rfl
    traceSet := fun _ => rfl
    traceCur := fun _ => rfl
    strobe := nofun }

/-! ### The clauses of `Inv` after an operation -/

section
variable {s : State} {i : Instr}

theorem Inv.filtersOk (h : Inv s) (c : Channel) : FiltersOk s c := by
  cases c
  · exact ⟨h.meanS, h.plausS⟩
  · exact ⟨h.meanC, h.plausC⟩

theorem Inv.setMdeg_afterOp (h : Inv s) (hs : s.stage = encode i) :
    ((afterOp i s).record.setMdeg = 0 ∧ (afterOp i s).stage.toNat ≤ 8) ∨ (afterOp i s).record.setMdeg = 5000 ∨
      (afterOp i s).record.setMdeg = 10000 ∨ (afterOp i s).record.setMdeg = 15000 := by
  rw [afterOp_record, afterOp_stage]
  by_cases hi : i = .mapS
  · rw [hi]
    exact .inr (mapSOut_cases s)
  · rw [effect_setMdeg_of_ne_mapS s hi]
    refine h.setMdeg.imp_left ?_
    rintro ⟨hzero, hle⟩
    rw [hs] at hle
    exact ⟨hzero, nextStage_toNat_le_eight hi hle _ _⟩

theorem Inv.curMdeg_afterOp (h : Inv s) (i : Instr) :
    -4000 ≤ (afterOp i s).record.curMdeg.toInt ∧ (afterOp i s).record.curMdeg.toInt ≤ 405600 ∧
      (afterOp i s).record.curMdeg.toInt % 100 = 0 := by
  rw [afterOp_record]
  by_cases hi : i = .mapC
  · rw [hi]
    exact toInt_mapCOut_range h.curClip
  · rw [effect_curMdeg_of_ne_mapC s hi]
    exact h.curMdeg

theorem Inv.command_afterOp (h : Inv s) (i : Instr) : (afterOp i s).record.comp = (afterOp i s).cooling := by
  rw [afterOp_record, afterOp_cooling]
  by_cases hi : i = .ctrl
  · rw [hi]
    rfl
  · obtain ⟨hcomp, hcooling⟩ := effect_command_of_ne_ctrl s hi
    rw [hcomp, hcooling, h.command]

theorem Inv.count_afterOp (h : Inv s) (i : Instr) : (afterOp i s).act.ledCnt.toNat < cntModOf (afterOp i s) := by
  rw [cntModOf, afterOp_cfg, afterOp_act]
  by_cases hi : i = .act
  · obtain ⟨-, -, -, ⟨hmod, -⟩, -⟩ := (cfgCheck_none_iff s.cfg).1 h.configured
    have hcount : (effect i s).act.ledCnt = ledCntOut s := by rw [hi]; rfl
    rw [hcount, toNat_ledCntOut h.configured]
    exact Nat.mod_lt _ hmod
  · obtain ⟨hact, -⟩ := effect_actuation_of_ne_act s hi
    rw [hact]
    exact h.count

theorem Inv.led_afterOp (h : Inv s) (i : Instr) : (afterOp i s).lines.led = (afterOp i s).act.ledPhase := by
  rw [afterOp_lines, afterOp_act]
  by_cases hi : i = .act
  · rw [hi]
    rfl
  · obtain ⟨hact, hlines⟩ := effect_actuation_of_ne_act s hi
    rw [hact, hlines, h.led]

theorem Inv.line_afterOp (h : Inv s) (hs : s.stage = encode i) (hne : (afterOp i s).stage ≠ encode .act) :
    (afterOp i s).lines.comp = (afterOp i s).cooling := by
  rw [afterOp_stage] at hne
  rw [afterOp_lines, afterOp_cooling]
  by_cases hact : i = .act
  · rw [hact]
    exact h.command
  · have hctrl : i ≠ .ctrl := by
      rintro rfl
      exact hne rfl
    have hstage : s.stage ≠ encode .act := fun he => hact (encode_injective (hs.symm.trans he))
    obtain ⟨-, hlines⟩ := effect_actuation_of_ne_act s hact
    obtain ⟨-, hcooling⟩ := effect_command_of_ne_ctrl s hctrl
    rw [hlines, hcooling, h.line hstage]

theorem Inv.traceComp_afterOp (h : Inv s) (hs : s.stage = encode i) (hne : (afterOp i s).stage ≠ encode .trace) :
    (afterOp i s).trace.comp = (afterOp i s).lines.comp := by
  rw [afterOp_stage] at hne
  rw [afterOp_trace, afterOp_lines]
  by_cases htrace : i = .trace
  · have hstage : s.stage ≠ encode .act := by
      rw [hs, htrace]
      decide
    rw [htrace]
    exact h.command.trans (h.line hstage).symm
  · have hact : i ≠ .act := by
      rintro rfl
      exact hne rfl
    have hstage : s.stage ≠ encode .trace := fun he => htrace (encode_injective (hs.symm.trans he))
    obtain ⟨-, hlines⟩ := effect_actuation_of_ne_act s hact
    rw [effect_trace_of_ne_trace _ htrace, hlines]
    exact h.traceComp hstage

theorem Inv.traceSet_afterOp (h : Inv s) (hs : s.stage = encode i) (hle : (afterOp i s).stage.toNat ≤ 8) :
    (afterOp i s).trace.setMdeg = (afterOp i s).record.setMdeg := by
  rw [afterOp_stage] at hle
  rw [afterOp_trace, afterOp_record]
  by_cases htrace : i = .trace
  · rw [htrace]
    rfl
  · obtain ⟨hmapS, hle'⟩ := of_nextStage_toNat_le_eight hle htrace
    rw [effect_trace_of_ne_trace _ htrace, effect_setMdeg_of_ne_mapS s hmapS]
    exact h.traceSet (hs ▸ hle')

theorem Inv.traceCur_afterOp (h : Inv s) (hs : s.stage = encode i) (hle : (afterOp i s).stage.toNat ≤ 9) :
    (afterOp i s).trace.curMdeg = (afterOp i s).record.curMdeg := by
  rw [afterOp_stage] at hle
  rw [afterOp_trace, afterOp_record]
  by_cases htrace : i = .trace
  · rw [htrace]
    rfl
  · obtain ⟨hmapC, hle'⟩ := of_nextStage_toNat_le_nine hle htrace
    rw [effect_trace_of_ne_trace _ htrace, effect_curMdeg_of_ne_mapC s hmapC]
    exact h.traceCur (hs ▸ hle')

theorem strobe_afterOp (hvalid : (afterOp i s).trace.valid = true) : (afterOp i s).stage = encode .idle := by
  by_cases htrace : i = .trace
  · rw [afterOp_stage, htrace]
    rfl
  · rw [afterOp_trace, effect_trace_of_ne_trace _ htrace] at hvalid
    cases hvalid

theorem ChannelInRange.afterOp {c : Channel} (h : ChannelInRange s c) (hc : cfgCheck s.cfg = none) (i : Instr) :
    ChannelInRange (afterOp i s) c :=
  ((h.strobeFall.effect hc i).advance i).hostNext

theorem FiltersOk.afterOp {c : Channel} (h : FiltersOk s c) (hrange : ChannelInRange s c)
    (hc : cfgCheck s.cfg = none) (i : Instr) : FiltersOk (afterOp i s) c := by
  have heffect := h.effect hrange hc i
  cases c
  all_goals simpa [FiltersOk, meanOf, plausOf, failsOf] using heffect

/-- The operation that the stage selects keeps `Inv`. -/
theorem Inv.afterOp (h : Inv s) (hs : s.stage = encode i) : Inv (afterOp i s) := by
  have hrange (c : Channel) : ChannelInRange (Machine.afterOp i s) c := (h.channelInRange c).afterOp h.configured i
  have hfilters (c : Channel) : FiltersOk (Machine.afterOp i s) c :=
    (h.filtersOk c).afterOp (h.channelInRange c) h.configured i
  exact {
    configured := by rw [afterOp_cfg]; exact h.configured
    stageAssigned := by rw [afterOp_stage]; exact codeAssigned_encode _
    setClip := (hrange .S).clip
    curClip := (hrange .C).clip
    setMdeg := h.setMdeg_afterOp hs
    curMdeg := h.curMdeg_afterOp i
    meanS := (hfilters .S).left
    meanC := (hfilters .C).left
    plausS := (hfilters .S).right
    plausC := (hfilters .C).right
    command := h.command_afterOp i
    count := h.count_afterOp i
    led := h.led_afterOp i
    line := h.line_afterOp hs
    traceComp := h.traceComp_afterOp hs
    traceSet := h.traceSet_afterOp hs
    traceCur := h.traceCur_afterOp hs
    strobe := strobe_afterOp }

/-! ### Steps and runs -/

theorem Inv.step {t : State} (h : Inv s) (hstep : step s = .next t) : Inv t := by
  cases hr : s.pins.rst with
  | true =>
    obtain ⟨u, hu, hsame⟩ := step_of_rst h.configured hr
    rw [hstep] at hu
    cases hu
    exact (inv_resetOf h.configured).of_sameButHost hsame
  | false =>
    obtain ⟨i, hstage, rfl⟩ := step_next_afterOp hr hstep
    exact h.afterOp hstage

/-- From `Inv` the step answers: the code is assigned, and MAP.C has a reading in range. -/
theorem Inv.exists_step (h : Inv s) : ∃ t, Machine.step s = .next t := by
  cases hr : s.pins.rst with
  | true => exact ⟨_, cycle_reset h.configured hr⟩
  | false =>
    obtain ⟨i, hstage⟩ := exists_encode_of_codeAssigned h.stageAssigned
    exact ⟨_, step_of_sensorInRange h.configured (h.channelInRange .C) hr hstage⟩

/-- What every step keeps, every run keeps. -/
theorem run_preserves {P : State → Prop} (hstep : ∀ s t, P s → Machine.step s = .next t → P t) {k : Nat} {s t : State}
    (h : P s) (hrun : run k s = .next t) : P t := by
  induction k generalizing s with
  | zero =>
    cases hrun
    exact h
  | succ k ih =>
    obtain ⟨u, hu, hrest⟩ := run_succ_next hrun
    exact ih (hstep s u h hu) hrest

theorem Inv.exists_run (h : Inv s) (k : Nat) : ∃ t, run k s = .next t ∧ Inv t := by
  induction k generalizing s with
  | zero => exact ⟨s, run_zero s, h⟩
  | succ k ih =>
    obtain ⟨u, hu⟩ := h.exists_step
    obtain ⟨t, hrun, ht⟩ := ih (h.step hu)
    exact ⟨t, (run_succ hu k).trans hrun, ht⟩

/-! ### A half-band that no temperature crosses (44_control_hysteresis.md R173; 70_reset_and_hazards.md R277) -/

/-- The compressor is off under a half-band above 400600, the distance of the highest sensor temperature from the lowest
setpoint temperature. -/
structure OffUnderWideHalfBand (s : State) : Prop where
  inv : Inv s
  wide : 400600 < s.cfg.h.toNat
  cooling : s.cooling = false
  line : s.lines.comp = false

/-- CTRL then compares temperatures that are closer than the half-band. -/
theorem OffUnderWideHalfBand.ctrlOut (h : OffUnderWideHalfBand s) (hs : s.stage = encode .ctrl) :
    ctrlOut s = false := by
  obtain ⟨-, hcur, -⟩ := h.inv.curMdeg
  have hwide := h.wide
  have hset : 5000 ≤ s.record.setMdeg.toInt := by
    have hstage : ¬ s.stage.toNat ≤ 8 := by
      rw [hs]
      decide
    rcases h.inv.setMdeg with ⟨-, hle⟩ | hset | hset | hset
    · exact absurd hle hstage
    all_goals
      rw [hset]
      decide
  rcases le_or_gt s.record.curMdeg.toInt (s.record.setMdeg.toInt - s.cfg.h.toNat) with hoff | hdead
  · exact ctrlOut_of_reaches_off h.inv.configured hoff
  · rw [ctrlOut_of_dead_band hdead (by omega)]
    exact h.cooling

theorem OffUnderWideHalfBand.afterOp (h : OffUnderWideHalfBand s) (hs : s.stage = encode i) :
    OffUnderWideHalfBand (afterOp i s) := by
  refine ⟨h.inv.afterOp hs, by rw [afterOp_cfg]; exact h.wide, ?cooling, ?line⟩
  case cooling =>
    rw [afterOp_cooling]
    by_cases hi : i = .ctrl
    · rw [hi] at hs ⊢
      exact h.ctrlOut hs
    · obtain ⟨-, hcooling⟩ := effect_command_of_ne_ctrl s hi
      rw [hcooling]
      exact h.cooling
  case line =>
    rw [afterOp_lines]
    by_cases hi : i = .act
    · rw [hi]
      exact h.inv.command.trans h.cooling
    · obtain ⟨-, hlines⟩ := effect_actuation_of_ne_act s hi
      rw [hlines]
      exact h.line

theorem OffUnderWideHalfBand.step {t : State} (h : OffUnderWideHalfBand s) (hstep : Machine.step s = .next t) :
    OffUnderWideHalfBand t := by
  cases hr : s.pins.rst with
  | true =>
    obtain ⟨u, hu, hsame⟩ := step_of_rst h.inv.configured hr
    rw [hstep] at hu
    cases hu
    have hinv : Inv t := h.inv.step hstep
    rw [hsame] at hinv ⊢
    exact ⟨hinv, h.wide, rfl, rfl⟩
  | false =>
    obtain ⟨i, hstage, rfl⟩ := step_next_afterOp hr hstep
    exact h.afterOp hstage

end

end Sys2Proof.Machine

open Sys2Proof
open Sys2Proof.Machine

/-- Settles O32: a step is a reset, after which `Inv` holds (`inv_resetOf`), or the operation that the stage selects,
with one lemma for each clause it could break (`Inv.afterOp`). -/
theorem stepKeepsInv : Obligations.StepKeepsInv := by
  unfold Obligations.StepKeepsInv
  intro s t hinv hstep
  exact hinv.step hstep

/-- Settles O33, by induction on the number of steps: from `Inv` a step answers and keeps it. -/
theorem everyRunFromInvGoesOn : Obligations.EveryRunFromInvGoesOn := by
  unfold Obligations.EveryRunFromInvGoesOn
  intro s k hinv
  exact hinv.exists_run k

/-- Settles O31: accepted parameters are read back whole (`cfgRaw_rawCfg`), so the configuration of what is constructed
passes the checks again, and the elements of R42 meet every clause. -/
theorem invHoldsAfterReset : Obligations.InvHoldsAfterReset := by
  unfold Obligations.InvHoldsAfterReset
  refine ⟨?constructed, fun c hc => inv_resetOf hc, inv_resetOf (by decide)⟩
  case constructed =>
    intro r s hs
    obtain ⟨hr, rfl⟩ := construct_next hs
    have hc : cfgCheck (rawCfg r) = none := by rw [cfgCheck, cfgRaw_rawCfg hr, hr]
    exact ⟨rfl, inv_resetOf hc⟩

/-- Settles O52: every step, CTRL's and a reset's included, keeps the compressor off (`OffUnderWideHalfBand.step`). -/
theorem wideHalfBandNeverStartsTheCompressor : Obligations.WideHalfBandNeverStartsTheCompressor := by
  unfold Obligations.WideHalfBandNeverStartsTheCompressor
  intro s t k hinv hwide hcooling hline hrun
  have hoff : OffUnderWideHalfBand t :=
    run_preserves (fun _ _ => OffUnderWideHalfBand.step) ⟨hinv, hwide, hcooling, hline⟩ hrun
  exact ⟨hoff.cooling, hoff.line⟩

end

section
/-! PROOFS. The thirteen steps of an accepted tick as one atomic step (47_sequencer_tick.md R211 to R217). -/

namespace Sys2Proof.Machine

/-! ### The conditioning of a reading lies between the reading and the two last values -/

theorem toInt_last_of_meanLast {m : MeanState} {last : Int} (h : meanLast m = some last) : m.last.toInt = last := by
  obtain ⟨-, hlast⟩ : m.valid = true ∧ m.last.toInt = last := by simpa [meanLast] using h
  exact hlast

theorem toInt_last_of_plausLast {p : PlausState} {last : Int} (h : plausLast p = some last) : p.last.toInt = last := by
  obtain ⟨-, hlast⟩ : p.valid = true ∧ p.last.toInt = last := by simpa [plausLast] using h
  exact hlast

theorem plausUpdate_mem {diff numFails : Nat} {lo hi value : Int} {st : Option Int × Nat}
    (hst : ∀ last, st.1 = some last → lo ≤ last ∧ last ≤ hi) (hv : lo ≤ value ∧ value ≤ hi) :
    lo ≤ (plausUpdate diff numFails st value).2 ∧ (plausUpdate diff numFails st value).2 ≤ hi := by
  rcases plausUpdate_cases diff numFails st value with htake | ⟨x, hx, -, -, hkeep⟩
  · rw [htake]
    exact hv
  · rw [hkeep]
    exact hst x hx

section
variable {s : State} {c : Channel} {x : Int}

theorem condition_plausThenMean (h : s.cfg.filterOrder = .plausThenMean) : condition s c x =
    ((plausUpdate (diffOf s c) (failsOf s c) (plausLast (plausOf s c), (plausOf s c).fails.toNat) x).1,
      meanUpdate (windowOf s c) (meanLast (meanOf s c))
        (plausUpdate (diffOf s c) (failsOf s c) (plausLast (plausOf s c), (plausOf s c).fails.toNat) x).2) := by
  rw [condition, h]

theorem condition_meanThenPlaus (h : s.cfg.filterOrder = .meanThenPlaus) : condition s c x =
    ((plausUpdate (diffOf s c) (failsOf s c) (plausLast (plausOf s c), (plausOf s c).fails.toNat)
        (meanUpdate (windowOf s c) (meanLast (meanOf s c)) x).2).1,
      (meanUpdate (windowOf s c) (meanLast (meanOf s c)) x).1,
      (plausUpdate (diffOf s c) (failsOf s c) (plausLast (plausOf s c), (plausOf s c).fails.toNat)
        (meanUpdate (windowOf s c) (meanLast (meanOf s c)) x).2).2) := by
  rw [condition, h]

theorem condition_mem {lo hi : Int} (hc : cfgCheck s.cfg = none) (hx : lo ≤ x ∧ x ≤ hi)
    (hmean : lo ≤ (meanOf s c).last.toInt ∧ (meanOf s c).last.toInt ≤ hi)
    (hplaus : lo ≤ (plausOf s c).last.toInt ∧ (plausOf s c).last.toInt ≤ hi) :
    lo ≤ (condition s c x).2.2 ∧ (condition s c x).2.2 ≤ hi := by
  have hmean' : ∀ last, meanLast (meanOf s c) = some last → lo ≤ last ∧ last ≤ hi :=
    fun _ hlast => toInt_last_of_meanLast hlast ▸ hmean
  have hplaus' : ∀ last, plausLast (plausOf s c) = some last → lo ≤ last ∧ last ≤ hi :=
    fun _ hlast => toInt_last_of_plausLast hlast ▸ hplaus
  cases horder : s.cfg.filterOrder with
  | plausThenMean =>
    rw [condition_plausThenMean horder]
    exact meanUpdate_mem (one_le_windowOf hc c) hmean' (plausUpdate_mem hplaus' hx)
  | meanThenPlaus =>
    rw [condition_meanThenPlaus horder]
    exact plausUpdate_mem hplaus' (meanUpdate_mem (one_le_windowOf hc c) hmean' hx)

theorem clip_reading_range (w : Word) : 0 ≤ clip w.toInt clipMin clipMax ∧ clip w.toInt clipMin clipMax ≤ 4096 :=
  clip_range (by decide) _

/-- Under an accepted configuration a conditioned reading always fits 32 bits, so storing it loses nothing. -/
theorem toInt_narrow_condition (hc : cfgCheck s.cfg = none) (c : Channel) (w : Word) :
    (narrow (condition s c (clip w.toInt clipMin clipMax)).2.2).toInt =
      (condition s c (clip w.toInt clipMin clipMax)).2.2 := by
  obtain ⟨hlo, hhi⟩ := clip_reading_range w
  obtain ⟨hlo', hhi'⟩ := condition_mem (c := c) (lo := -2 ^ 31) (hi := 2 ^ 31 - 1) hc
    (x := clip w.toInt clipMin clipMax) (by omega) (word_toInt_range _) (word_toInt_range _)
  exact narrow_toInt hlo' hhi'

/-- With the filters in range so is the conditioned reading (40_mean_filter.md R111; 41_plausible_filter.md R127). -/
theorem condition_range (hc : cfgCheck s.cfg = none) (hmean : readingInRange (meanOf s c).last)
    (hplaus : readingInRange (plausOf s c).last) (w : Word) :
    0 ≤ (condition s c (clip w.toInt clipMin clipMax)).2.2 ∧
      (condition s c (clip w.toInt clipMin clipMax)).2.2 ≤ 4096 :=
  condition_mem hc (clip_reading_range w) hmean hplaus

/-- Then the atomic tick does not refuse. -/
theorem fitsWord_mapCur_condition (hc : cfgCheck s.cfg = none) (hmean : readingInRange (meanOf s c).last)
    (hplaus : readingInRange (plausOf s c).last) (w : Word) :
    fitsWord (mapCur (condition s c (clip w.toInt clipMin clipMax)).2.2) = true := by
  obtain ⟨hlo, hhi⟩ := condition_range hc hmean hplaus w
  exact (fitsWord_mapCur_iff _).2 (by omega)

/-! ### The two filter operations of a channel, in the configured order, make up its conditioning -/

/-- The two filter operations of channel `c` one after the other. -/
def filterChannel (order : FilterOrder) (c : Channel) (s : State) : State :=
  match order with
  | .plausThenMean => meanChannel c (plausChannel c s)
  | .meanThenPlaus => plausChannel c (meanChannel c s)

/-- What the two operations leave: the conditioning's new filter states and the conditioned reading. -/
def conditionChannel (c : Channel) (s : State) : State :=
  let f := condition s c (clipOf s c).toInt
  ((s.setPlaus c (plausRegs f.1)).setMean c (meanRegs f.2.1)).setClip c (narrow f.2.2)

theorem toInt_plausOut (s : State) (c : Channel) : (plausOut s c).toInt = (plausResult s c).2 := by
  have hlast : ∀ last, plausLast (plausOf s c) = some last → -2 ^ 31 ≤ last ∧ last ≤ 2 ^ 31 - 1 :=
    fun _ hlast => toInt_last_of_plausLast hlast ▸ word_toInt_range _
  obtain ⟨hlo, hhi⟩ := plausUpdate_mem (diff := diffOf s c) (numFails := failsOf s c)
    (st := (plausLast (plausOf s c), (plausOf s c).fails.toNat)) hlast (word_toInt_range (clipOf s c))
  exact narrow_toInt hlo hhi

theorem plausChannel_eq (c : Channel) (s : State) :
    plausChannel c s = (s.setPlaus c (plausNew s c)).setClip c (plausOut s c) := rfl

theorem meanChannel_eq (c : Channel) (s : State) :
    meanChannel c s = (s.setMean c { valid := true, last := meanOut s c }).setClip c (meanOut s c) := rfl

/-- The mean filter after the plausibility filter sees what that one put out. -/
theorem meanOut_plausChannel (s : State) (c : Channel) : meanOut (plausChannel c s) c =
    narrow (meanUpdate (windowOf s c) (meanLast (meanOf s c)) (plausResult s c).2).2 := by
  rw [← toInt_plausOut]
  cases c <;> rfl

/-- The plausibility filter after the mean filter sees what that one put out. -/
theorem plausResult_meanChannel (hc : cfgCheck s.cfg = none) (c : Channel) : plausResult (meanChannel c s) c =
    plausUpdate (diffOf s c) (failsOf s c) (plausLast (plausOf s c), (plausOf s c).fails.toNat)
      (meanUpdate (windowOf s c) (meanLast (meanOf s c)) (clipOf s c).toInt).2 := by
  rw [← toInt_meanOut hc]
  cases c <;> rfl

theorem meanRegs_meanUpdate (n : Nat) (st : Option Int) (value : Int) :
    meanRegs (meanUpdate n st value).1 = { valid := true, last := narrow (meanUpdate n st value).2 } := by
  rw [meanUpdate_fst]
  rfl

theorem filterChannel_eq (hc : cfgCheck s.cfg = none) (c : Channel) :
    filterChannel s.cfg.filterOrder c s = conditionChannel c s := by
  unfold conditionChannel
  cases horder : s.cfg.filterOrder with
  | plausThenMean =>
    rw [condition_plausThenMean horder, filterChannel, meanChannel_eq, meanOut_plausChannel]
    dsimp only
    rw [meanRegs_meanUpdate]
    cases c <;> rfl
  | meanThenPlaus =>
    rw [condition_meanThenPlaus horder, filterChannel, plausChannel_eq, plausNew, plausOut, plausResult_meanChannel hc]
    dsimp only
    rw [meanRegs_meanUpdate]
    cases c <;> rfl

/-- The conditioning of a channel reads the configuration and that channel's filters, and nothing else. -/
theorem condition_congr {t : State} (hcfg : t.cfg = s.cfg) (hmean : meanOf t c = meanOf s c)
    (hplaus : plausOf t c = plausOf s c) (y : Int) : condition t c y = condition s c y := by
  have hwindow : windowOf t c = windowOf s c := by cases c <;> simp [windowOf, hcfg]
  have hdiff : diffOf t c = diffOf s c := by cases c <;> simp [diffOf, hcfg]
  have hfails : failsOf t c = failsOf s c := by cases c <;> simp [failsOf, hcfg]
  simp only [condition, hcfg, hmean, hplaus, hwindow, hdiff, hfails]

/-- So the conditioning of a channel may be read off an earlier state with the same configuration and filters. -/
theorem conditionChannel_of_same_filters {t : State} {y : Int} (hclip : (clipOf t c).toInt = y) (hcfg : t.cfg = s.cfg)
    (hmean : meanOf t c = meanOf s c) (hplaus : plausOf t c = plausOf s c) : conditionChannel c t =
      ((t.setPlaus c (plausRegs (condition s c y).1)).setMean c (meanRegs (condition s c y).2.1)).setClip c
        (narrow (condition s c y).2.2) := by
  rw [← condition_congr hcfg hmean hplaus, ← hclip]
  rfl

/-- The conditioning of both channels, from a record with the clipped readings `x` and `y`. -/
theorem conditionChannels_setRecord (s : State) {r : SampleRecord} {x y : Int} (hx : r.setClip.toInt = x)
    (hy : r.curClip.toInt = y) : conditionChannel .C (conditionChannel .S (s.setRecord r)) = { s with
      record := { r with setClip := narrow (condition s .S x).2.2, curClip := narrow (condition s .C y).2.2 }
      plausS := plausRegs (condition s .S x).1
      meanS := meanRegs (condition s .S x).2.1
      plausC := plausRegs (condition s .C y).1
      meanC := meanRegs (condition s .C y).2.1 } := by
  rw [conditionChannel_of_same_filters (t := s.setRecord r) (c := .S) hx (s := s) rfl rfl rfl]
  generalize condition s .S x = fS
  rw [conditionChannel_of_same_filters (c := .C) (s := s) (y := y)]
  case hclip => exact hy
  case hcfg | hmean | hplaus => rfl
  rfl

/-! ### The tick's effect, operation after operation -/

/-- The state with a pair of samples in the raw fields of its record, as ACQ leaves them. -/
def withSamples (x : Stimulus) (s : State) : State := (s.setRaw .S x.set).setRaw .C x.cur

theorem clipChannels_withSamples (x : Stimulus) (s : State) :
    clipChannel .C (clipChannel .S (withSamples x s)) = s.setRecord { s.record with
      setRaw := x.set, setClip := narrow (clip x.set.toInt clipMin clipMax)
      curRaw := x.cur, curClip := narrow (clip x.cur.toInt clipMin clipMax) } := rfl

/-- What the operations after ACQ do together: the two clips, the conditioning of both channels, the mappings, CTRL, ACT
and TRACE. -/
def afterSamples (s : State) : State :=
  present (actuate (regulate (mapSensor (mapSetpoint
    (conditionChannel .C (conditionChannel .S (clipChannel .C (clipChannel .S s))))))))

theorem toInt_narrow_clip (w : Word) :
    (narrow (clip w.toInt clipMin clipMax)).toInt = clip w.toInt clipMin clipMax := by
  obtain ⟨hlo, hhi⟩ := clip_reading_range w
  exact narrow_toInt (by omega) (by omega)

theorem toInt_narrow_mapSet (y : Int) : (narrow (mapSet y)).toInt = mapSet y := by
  rcases mapSet_cases y with h | h | h
  all_goals
    rw [h]
    decide

/-- Together they are the atomic tick (47_sequencer_tick.md R216). -/
theorem afterSamples_withSamples (hc : cfgCheck s.cfg = none) {x : Stimulus}
    (hfit : fitsWord (mapCur (condition s .C (clip x.cur.toInt clipMin clipMax)).2.2) = true) :
    (afterSamples (withSamples x s)).setStage (encode .idle) = afterTick s x := by
  obtain ⟨hlo, hhi⟩ := (fitsWord_iff _).1 hfit
  have hmapC := narrow_toInt hlo hhi
  unfold afterSamples
  rw [clipChannels_withSamples, conditionChannels_setRecord s rfl rfl]
  dsimp only
  rw [toInt_narrow_clip, toInt_narrow_clip]
  simp [afterTick, present, actuate, regulate, mapSensor, mapSetpoint, State.setStage, State.setTrace, State.setLines,
    State.setAct, State.setComp, State.setCooling, State.setMdeg, State.setRecord, clipOf, mdegOf, halfBandOf,
    idleDivOf, cntModOf, toInt_narrow_condition hc, toInt_narrow_mapSet, hmapC]

end

/-! ### Operations in a row -/

/-- The effects of a list of operations, the strobe falling before each. -/
def opsEffect : List Instr → State → State
  | [], s => s
  | i :: l, s => opsEffect l (effect i (strobeFall s))

/-- No operation of the list refuses: where one is MAP.C, its reading has a temperature that fits. -/
def OpsAnswer : List Instr → State → Prop
  | [], _ => True
  | i :: l, s => (i = .mapC → fitsWord (mapCur s.record.curClip.toInt) = true) ∧ OpsAnswer l (effect i (strobeFall s))

/-! No effect looks at `seq.stage`, and none but ACQ's at the host's side. -/

section
variable {i : Instr} {l : List Instr}

theorem effect_setStage (i : Instr) (s : State) (c : Code) : effect i (s.setStage c) = (effect i s).setStage c := by
  cases i <;> rfl

theorem hostNext_setStage (s : State) (c : Code) : hostNext (s.setStage c) = (hostNext s).setStage c := by
  cases hplan : s.hostPlan with
  | nil => rw [hostNext_nil hplan, hostNext_nil (s := s.setStage c) hplan]
  | cons p rest =>
    rw [hostNext_cons hplan, hostNext_cons (s := s.setStage c) hplan]
    rfl

theorem effect_hostNext (hi : i ≠ .acq) (s : State) : effect i (hostNext s) = hostNext (effect i s) := by
  have hplan : (effect i s).hostPlan = s.hostPlan := effect_hostPlan i s
  cases hs : s.hostPlan with
  | nil => rw [hostNext_nil hs, hostNext_nil (hplan.trans hs)]
  | cons p rest =>
    rw [hostNext_cons hs, hostNext_cons (hplan.trans hs)]
    cases i
    case acq => exact absurd rfl hi
    all_goals rfl

theorem strobeFall_hostNext (s : State) : strobeFall (hostNext s) = hostNext (strobeFall s) := by
  cases hs : s.hostPlan with
  | nil => rw [hostNext_nil hs, hostNext_nil (s := strobeFall s) hs]
  | cons p rest =>
    rw [hostNext_cons hs, hostNext_cons (s := strobeFall s) hs]
    rfl

theorem opsEffect_setStage (l : List Instr) (s : State) (c : Code) :
    opsEffect l (s.setStage c) = (opsEffect l s).setStage c := by
  induction l generalizing s with
  | nil => rfl
  | cons i l ih =>
    rw [opsEffect, opsEffect, ← ih, ← effect_setStage]
    rfl

theorem opsEffect_hostNext (hl : .acq ∉ l) (s : State) : opsEffect l (hostNext s) = hostNext (opsEffect l s) := by
  induction l generalizing s with
  | nil => rfl
  | cons i l ih =>
    obtain ⟨hi, hl⟩ := List.ne_and_not_mem_of_not_mem_cons hl
    rw [opsEffect, opsEffect, strobeFall_hostNext, effect_hostNext hi.symm, ih hl]

theorem opsAnswer_setStage {s : State} (h : OpsAnswer l s) (c : Code) : OpsAnswer l (s.setStage c) := by
  induction l generalizing s with
  | nil => trivial
  | cons i l ih =>
    obtain ⟨hfit, hrest⟩ := h
    have hrest' := ih hrest
    rw [← effect_setStage] at hrest'
    exact ⟨hfit, hrest'⟩

theorem opsAnswer_hostNext (hl : .acq ∉ l) {s : State} (h : OpsAnswer l s) : OpsAnswer l (hostNext s) := by
  induction l generalizing s with
  | nil => trivial
  | cons i l ih =>
    obtain ⟨hi, hl⟩ := List.ne_and_not_mem_of_not_mem_cons hl
    obtain ⟨hfit, hrest⟩ := h
    refine ⟨?fits, ?rest⟩
    case fits =>
      rw [hostNext_eq]
      exact hfit
    case rest =>
      rw [strobeFall_hostNext, effect_hostNext hi.symm]
      exact ih hl hrest

end

theorem NoResetFor.afterOp {n : Nat} {s : State} (h : NoResetFor (n + 1) s) (i : Instr) :
    NoResetFor n (afterOp i s) := by
  have hsame : NoResetFor (n + 1) ((effect i (strobeFall s)).advance i) := by
    simpa [NoResetFor, advance_eq, strobeFall_eq] using h
  exact hsame.hostNext

theorem afterOp_of_ne_idle {i : Instr} (hi : i ≠ .idle) (s : State) : afterOp i s =
    hostNext ((effect i (strobeFall s)).setStage (encode (nextStage s.cfg.filterOrder false i))) := by
  rw [afterOp, State.advance, effect_cfg, nextStage_of_ne_idle hi _ _ false]
  rfl

/-- The machine runs the operations that follow one another from `i` on, one a step, when none of them is IDLE or
ACQ. -/
theorem run_iterate {order : FilterOrder} {n : Nat} {i : Instr} {s : State}
    (hacq : .acq ∉ List.iterate (nextStage order false) i n) (hidle : .idle ∉ List.iterate (nextStage order false) i n)
    (hc : cfgCheck s.cfg = none) (horder : s.cfg.filterOrder = order) (hquiet : NoResetFor n s)
    (hs : s.stage = encode i) (hanswer : OpsAnswer (List.iterate (nextStage order false) i n) s) :
    run n s = .next (hostNext^[n] ((opsEffect (List.iterate (nextStage order false) i n) s).setStage
      (encode ((nextStage order false)^[n] i)))) := by
  induction n generalizing i s with
  | zero =>
    have hstage : s.setStage (encode i) = s := by
      rw [← hs]
      rfl
    exact (run_zero s).trans (congrArg _ hstage.symm)
  | succ n ih =>
    rw [List.iterate] at *
    obtain ⟨hi, hacq⟩ := List.ne_and_not_mem_of_not_mem_cons hacq
    obtain ⟨hi', hidle⟩ := List.ne_and_not_mem_of_not_mem_cons hidle
    obtain ⟨hfit, hanswer⟩ := hanswer
    obtain ⟨hrst, -⟩ := noResetFor_succ_iff.1 hquiet
    have hstep : step s = .next (afterOp i s) :=
      (step_next_iff hrst).2 ⟨i, _, hs, exec_next_iff.2 ⟨hc, hfit, rfl⟩, rfl⟩
    have hafter := afterOp_of_ne_idle hi'.symm s
    rw [horder] at hafter
    rw [run_succ hstep, ih hacq hidle]
    case hc | horder => rwa [afterOp_cfg]
    case hquiet => exact hquiet.afterOp i
    case hs => rw [hafter, hostNext_stage, State.setStage_stage]
    case hanswer =>
      rw [hafter]
      exact opsAnswer_hostNext hacq (opsAnswer_setStage hanswer _)
    rw [hafter, opsEffect_hostNext hacq, opsEffect_setStage, ← hostNext_setStage, ← Function.iterate_succ_apply]
    rfl

/-! ### The thirteen steps -/

section
variable {s : State} {x : Stimulus}

theorem effect_strobeFall {i : Instr} (hi : i ≠ .trace) (s : State) :
    effect i (strobeFall s) = strobeFall (effect i s) := by
  cases i
  case trace => exact absurd rfl hi
  all_goals rfl

/-! The next two hold by `rfl`; they are proved by cases so that `simp` rewrites with them step by step and leaves the
kernel no computation of whole states. -/

theorem effect_trace_strobeFall (s : State) : effect .trace (strobeFall s) = effect .trace s := by
  cases s
  rfl

theorem strobeFall_strobeFall (s : State) : strobeFall (strobeFall s) = strobeFall s := by
  cases s
  rfl

/-- The operations after ACQ in the order of R212, to TRACE. -/
def opsAfterAcq (order : FilterOrder) : List Instr := List.iterate (nextStage order false) .clipS 11

theorem filterChannels_eq (hc : cfgCheck s.cfg = none) :
    filterChannel s.cfg.filterOrder .C (filterChannel s.cfg.filterOrder .S s) =
      conditionChannel .C (conditionChannel .S s) := by
  have hcfg : (conditionChannel .S s).cfg = s.cfg := by simp [conditionChannel]
  rw [filterChannel_eq hc .S, ← filterChannel_eq (by rwa [hcfg]) .C, hcfg]

theorem clipChannels_cfg (s : State) : (clipChannel .C (clipChannel .S s)).cfg = s.cfg := rfl

/-- Under either order the eleven operations do what `afterSamples` says; the strobe that falls before each is seen by
none of them, and TRACE raises it. -/
theorem opsEffect_opsAfterAcq (hc : cfgCheck s.cfg = none) :
    opsEffect (opsAfterAcq s.cfg.filterOrder) s = afterSamples s := by
  rw [afterSamples, ← filterChannels_eq (by rwa [clipChannels_cfg]), clipChannels_cfg]
  cases s.cfg.filterOrder
  all_goals
    simp (disch := decide) only [opsAfterAcq, List.iterate, nextStage, opsEffect, effect_strobeFall,
      effect_trace_strobeFall, strobeFall_strobeFall]
    simp only [effect, filterChannel]

theorem opsAnswer_of_sensorInRange {l : List Instr} (hc : cfgCheck s.cfg = none) (h : ChannelInRange s .C) :
    OpsAnswer l s := by
  induction l generalizing s with
  | nil => trivial
  | cons i l ih =>
    exact ⟨fun _ => fitsWord_mapCur_of_readingInRange h.clip, ih (by rwa [effect_cfg]) (h.strobeFall.effect hc i)⟩

/-- None of them refuses when the filters of the sensor channel are in range: the reading that stood in the record is
overwritten by CLIP.C. -/
theorem opsAnswer_opsAfterAcq (hc : cfgCheck s.cfg = none) (hmean : readingInRange s.meanC.last)
    (hplaus : readingInRange s.plausC.last) (order : FilterOrder) : OpsAnswer (opsAfterAcq order) s := by
  have hclipped : ChannelInRange (effect .clipC (strobeFall (effect .clipS (strobeFall s)))) .C :=
    ⟨readingInRange_clipOut _ .C, hmean, hplaus⟩
  have hrest (l : List Instr) : OpsAnswer l (effect .clipC (strobeFall (effect .clipS (strobeFall s)))) :=
    opsAnswer_of_sensorInRange (by rwa [effect_cfg, strobeFall_eq, effect_cfg]) hclipped
  exact ⟨nofun, nofun, hrest _⟩

theorem acq_notMem_opsAfterAcq (order : FilterOrder) : .acq ∉ opsAfterAcq order := by
  cases order <;> decide

theorem idle_notMem_opsAfterAcq (order : FilterOrder) : .idle ∉ opsAfterAcq order := by
  cases order <;> decide

theorem iterate_nextStage_clipS (order : FilterOrder) : (nextStage order false)^[11] .clipS = .idle := by
  cases order <;> rfl

/-- From CLIP.S on, eleven steps run the operations to TRACE and load IDLE. -/
theorem run_opsAfterAcq (hc : cfgCheck s.cfg = none) (hmean : readingInRange s.meanC.last)
    (hplaus : readingInRange s.plausC.last) (hs : s.stage = encode .clipS) (hquiet : NoResetFor 11 s) :
    run 11 s =
      .next (hostNext^[11] ((opsEffect (opsAfterAcq s.cfg.filterOrder) s).setStage (encode .idle))) := by
  rw [← iterate_nextStage_clipS s.cfg.filterOrder]
  exact run_iterate (acq_notMem_opsAfterAcq _) (idle_notMem_opsAfterAcq _) hc rfl hquiet hs
    (opsAnswer_opsAfterAcq hc hmean hplaus _)

/-- The samples on the ports in the second step, ACQ's: the first planned levels, or else the present ones. -/
def portSamples (s : State) : Stimulus where
  set := (s.hostPlan.headD s.pins).adcSet
  cur := (s.hostPlan.headD s.pins).adcCur

theorem acquire_hostNext (s : State) : acquire (hostNext s) = hostNext (withSamples (portSamples s) s) := by
  cases hplan : s.hostPlan with
  | nil =>
    have hplan' : (withSamples (portSamples s) s).hostPlan = [] := hplan
    rw [hostNext_nil hplan, hostNext_nil hplan', portSamples, hplan]
    rfl
  | cons p l =>
    have hplan' : (withSamples (portSamples s) s).hostPlan = p :: l := hplan
    rw [hostNext_cons hplan, hostNext_cons hplan', portSamples, hplan]
    rfl

/-- The state in which ACQ takes the samples, but for the host's next levels. -/
def acceptedTick (s : State) : State := (strobeFall s).setStage (encode .acq)

theorem setStage_setStage (s : State) (c d : Code) : (s.setStage c).setStage d = s.setStage d := rfl

theorem afterTick_acceptedTick (s : State) (x : Stimulus) : afterTick (acceptedTick s) x = afterTick s x := rfl

theorem afterOp_idle_of_tick (htick : s.pins.tick = true) : afterOp .idle s = hostNext (acceptedTick s) := by
  rw [afterOp, State.advance, readTick, effect_pins, strobeFall_eq, htick]
  rfl

theorem afterOp_acq_of_tick (htick : s.pins.tick = true) : afterOp .acq (afterOp .idle s) =
    hostNext ((hostNext (withSamples (portSamples s) (acceptedTick s))).setStage (encode .clipS)) := by
  have hacquire : effect .acq (strobeFall (hostNext (acceptedTick s))) =
      hostNext (withSamples (portSamples s) (acceptedTick s)) := by
    rw [strobeFall_hostNext]
    exact acquire_hostNext (acceptedTick s)
  rw [afterOp_of_ne_idle (by decide), afterOp_idle_of_tick htick, hacquire]
  rfl

/-- The thirteen steps of an accepted tick are the atomic tick on the samples of the second step, and thirteen times the
host's next levels. -/
theorem run_thirteen (hc : cfgCheck s.cfg = none) (hmean : readingInRange s.meanC.last)
    (hplaus : readingInRange s.plausC.last) (hs : s.stage = encode .idle) (hquiet : NoResetFor 13 s)
    (htick : s.pins.tick = true) : run 13 s = .next (hostNext^[13] (afterTick s (portSamples s))) := by
  have hquiet1 := hquiet.afterOp .idle
  have hquiet2 := hquiet1.afterOp .acq
  have hc1 : cfgCheck (afterOp .idle s).cfg = none := by rwa [afterOp_cfg]
  have hs1 : (afterOp .idle s).stage = encode .acq := by
    rw [afterOp_stage, htick]
    rfl
  have hidle : step s = .next (afterOp .idle s) :=
    step_of_ne_mapC hc (noResetFor_succ_iff.1 hquiet).1 hs (by decide)
  have hacq : step (afterOp .idle s) = .next (afterOp .acq (afterOp .idle s)) :=
    step_of_ne_mapC hc1 (noResetFor_succ_iff.1 hquiet1).1 hs1 (by decide)
  have hrest := run_opsAfterAcq (s := afterOp .acq (afterOp .idle s)) (by rwa [afterOp_cfg])
    (by rw [afterOp_meanC]; simpa [effect, acquire] using hmean)
    (by rw [afterOp_plausC]; simpa [effect, acquire] using hplaus) (by rw [afterOp_stage]; rfl) hquiet2
  have heffect : opsEffect (opsAfterAcq s.cfg.filterOrder) (withSamples (portSamples s) (acceptedTick s)) =
      afterSamples (withSamples (portSamples s) (acceptedTick s)) :=
    opsEffect_opsAfterAcq (s := withSamples (portSamples s) (acceptedTick s)) hc
  have hfit := fitsWord_mapCur_condition (s := acceptedTick s) (c := .C) hc hmean hplaus (portSamples s).cur
  have hatomic : (afterSamples (withSamples (portSamples s) (acceptedTick s))).setStage (encode .idle) =
      afterTick s (portSamples s) := by
    rw [afterSamples_withSamples (s := acceptedTick s) hc hfit, afterTick_acceptedTick]
  rw [run_succ hidle, run_succ hacq, hrest, afterOp_cfg, afterOp_cfg, afterOp_acq_of_tick htick,
    opsEffect_hostNext (acq_notMem_opsAfterAcq _), opsEffect_setStage, opsEffect_hostNext (acq_notMem_opsAfterAcq _),
    heffect, ← hostNext_setStage, ← hostNext_setStage, ← hostNext_setStage, setStage_setStage, hatomic,
    ← Function.iterate_succ_apply, ← Function.iterate_succ_apply]

end

end Sys2Proof.Machine
end

section
/-! PROOFS. The atomic tick and the lines of a test program, against the steps of the machine (47_sequencer_tick.md
R216, R221; 30_encoding.md R89, R90). -/

namespace Sys2Proof.Machine

/-! ### The atomic tick and the host's side -/

theorem sameButHost_refl (s : State) : SameButHost s s := rfl

theorem sameButHost_hostNext_iterate (n : Nat) (s : State) : SameButHost s (hostNext^[n] s) := by
  induction n generalizing s with
  | zero => exact sameButHost_refl s
  | succ n ih => exact (sameButHost_hostNext s).trans (ih (hostNext s))

section
variable {s t u : State} {x : Stimulus}

/-- The atomic tick does not look at the host's side. -/
theorem SameButHost.afterTick (h : SameButHost s t) (x : Stimulus) :
    SameButHost (afterTick s x) (afterTick t x) := by
  rw [h]
  rfl

theorem SameButHost.tick (h : SameButHost s t) (htick : tick s x = .next u) :
    ∃ v, Machine.tick t x = .next v ∧ SameButHost u v := by
  obtain ⟨hc, hs, hfit, rfl⟩ := tick_next_iff.1 htick
  refine ⟨Machine.afterTick t x, tick_next_iff.2 ?_, h.afterTick x⟩
  rw [h]
  exact ⟨hc, hs, hfit, rfl⟩

theorem SameButHost.applyReset (h : SameButHost s t) : SameButHost (applyReset s) (applyReset t) := by
  rw [h]
  rfl

theorem SameButHost.actionStep {a : Action} (h : SameButHost s t) (hstep : actionStep s a = .next u) :
    ∃ v, Machine.actionStep t a = .next v ∧ SameButHost u v := by
  cases a with
  | reset =>
    obtain ⟨hc, hu⟩ := onInstance_next hstep
    cases hu
    refine ⟨_, onInstance_valid ?_ _, h.applyReset⟩
    rw [h]
    exact hc
  | tick x => exact h.tick hstep

theorem SameButHost.actionSteps {l : List Action} (h : SameButHost s t) (hsteps : actionSteps l s = .next u) :
    ∃ v, Machine.actionSteps l t = .next v ∧ SameButHost u v := by
  induction l generalizing s t with
  | nil =>
    cases hsteps
    exact ⟨t, rfl, h⟩
  | cons a l ih =>
    obtain ⟨w, hw, hrest⟩ := andThen_next hsteps
    obtain ⟨w', hw', hsame⟩ := h.actionStep hw
    obtain ⟨v, hv, hsame'⟩ := ih hsame hrest
    exact ⟨v, by rw [Machine.actionSteps, hw', andThen_of_next, hv], hsame'⟩

/-! ### When the atomic tick answers -/

theorem tick_of_inv (h : Inv s) (hs : s.stage = encode .idle) (x : Stimulus) : tick s x = .next (afterTick s x) := by
  have hC := h.channelInRange .C
  exact tick_next h.configured hs (fitsWord_mapCur_condition h.configured hC.mean hC.plaus x.cur)

theorem tick_of_invalidConfig {r : ConfigReason} (h : cfgCheck s.cfg = some r) (x : Stimulus) :
    tick s x = .refused (.invalidConfig r) := onInstance_invalid h _

theorem tick_in_progress (hc : cfgCheck s.cfg = none) (hs : s.stage ≠ encode .idle) (x : Stimulus) :
    tick s x = .refused (.tickInProgress s.stage) := by
  rw [tick, onInstance_valid hc, if_neg hs]

theorem tick_of_not_fitsWord (hc : cfgCheck s.cfg = none) (hs : s.stage = encode .idle)
    (hfit : ¬ fitsWord (mapCur (condition s .C (clip x.cur.toInt clipMin clipMax)).2.2) = true) :
    tick s x =
      .refused (.temperatureDoesNotFit (narrow (condition s .C (clip x.cur.toInt clipMin clipMax)).2.2)) := by
  rw [tick, onInstance_valid hc, if_pos hs, if_neg hfit]

/-- The temperatures of a tick that answers are exact. -/
theorem toInt_afterTick_curMdeg
    (hfit : fitsWord (mapCur (condition s .C (clip x.cur.toInt clipMin clipMax)).2.2) = true) :
    (afterTick s x).record.curMdeg.toInt = mapCur (condition s .C (clip x.cur.toInt clipMin clipMax)).2.2 := by
  obtain ⟨hlo, hhi⟩ := (fitsWord_iff _).1 hfit
  exact narrow_toInt hlo hhi

theorem toInt_afterTick_setMdeg (s : State) (x : Stimulus) : (afterTick s x).record.setMdeg.toInt =
    mapSet (condition s .S (clip x.set.toInt clipMin clipMax)).2.2 := toInt_narrow_mapSet _

/-! ### The levels of a test program's lines -/

theorem hostNext_playLevels {p : Pins} {rest : List Pins} (hplan : s.hostPlan = []) :
    hostNext (playLevels s (p :: rest)) = playLevels (s.setPins p) rest := by
  cases rest with
  | nil =>
    have hempty : (playLevels s [p]).hostPlan = [] := rfl
    rw [hostNext_nil hempty]
    exact congrArg (State.setPins · p) (show s.setPlan [] = s by rw [← hplan]; rfl)
  | cons q rest =>
    have hcons : (playLevels s (p :: q :: rest)).hostPlan = q :: rest := rfl
    rw [hostNext_cons hcons]
    rfl

/-- When the levels of a line have been on the ports, those of the other lines are left to play. -/
theorem hostNext_iterate_playLevels (hplan : s.hostPlan = []) (first rest : List Pins) :
    ∃ t, hostNext^[first.length] (playLevels s (first ++ rest)) = playLevels t rest ∧ SameButHost s t ∧
      t.hostPlan = [] := by
  induction first generalizing s with
  | nil => exact ⟨s, rfl, sameButHost_refl s, hplan⟩
  | cons p first ih =>
    obtain ⟨t, hplay, hsame, hempty⟩ := ih (s := s.setPins p) hplan
    refine ⟨t, ?_, (sameButHost_setPins s p).trans hsame, hempty⟩
    rw [List.length_cons, Function.iterate_succ_apply, List.cons_append, hostNext_playLevels hplan, hplay]

theorem sameButHost_playLevels (s : State) (l : List Pins) : SameButHost s (playLevels s l) := by
  cases l <;> rfl

/-- The thirteen steps of a TICK line. -/
theorem run_tickLevels (h : Inv s) (hs : s.stage = encode .idle) (x : Stimulus) (rest : List Pins) :
    run 13 (playLevels s (tickLevels x ++ rest)) =
      .next (hostNext^[13] (playLevels (afterTick s x) (tickLevels x ++ rest))) := by
  have hC := h.channelInRange .C
  have hquiet : NoResetFor 13 (playLevels s (tickLevels x ++ rest)) := by
    have hlevels : ∀ p ∈ tickLevels x, p.rst = false := by
      simp [tickLevels, sampleLevels]
    exact hlevels
  exact run_thirteen (s := playLevels s (tickLevels x ++ rest)) h.configured hC.mean hC.plaus hs hquiet rfl

theorem inv_afterTick (h : Inv s) (hs : s.stage = encode .idle) (x : Stimulus) : Inv (afterTick s x) := by
  have hrun := run_tickLevels h hs x []
  have hinv := run_preserves (P := Inv) (fun _ _ => Inv.step) (h.of_sameButHost (sameButHost_playLevels s _)) hrun
  exact hinv.of_sameButHost
    ((sameButHost_playLevels (afterTick s x) _).trans (sameButHost_hostNext_iterate 13 _)).symm

/-- A line of a test program, played on the ports with other levels to follow: the atomic step, and the host's next
levels as many times as the line has steps. -/
theorem run_actionLevels (h : Inv s) (hs : s.stage = encode .idle) (a : Action) (rest : List Pins) :
    ∃ u, actionStep s a = .next u ∧ Inv u ∧ u.stage = encode .idle ∧ u.hostPlan = s.hostPlan ∧
      run (actionLevels a).length (playLevels s (actionLevels a ++ rest)) =
        .next (hostNext^[(actionLevels a).length] (playLevels u (actionLevels a ++ rest))) := by
  cases a with
  | reset =>
    have hinv : Inv (applyReset s) := (inv_resetOf h.configured).of_sameButHost rfl
    have hstep : step (playLevels s (resetLevels ++ rest)) =
        .next (hostNext (playLevels (applyReset s) (resetLevels ++ rest))) := cycle_reset h.configured rfl
    exact ⟨applyReset s, onInstance_valid h.configured _, hinv, rfl, rfl, run_succ hstep 0⟩
  | tick x =>
    exact ⟨afterTick s x, tick_of_inv h hs x, inv_afterTick h hs x, rfl, rfl, run_tickLevels h hs x rest⟩

theorem programLevels_cons (a : Action) (l : List Action) :
    programLevels (a :: l) = actionLevels a ++ programLevels l := rfl

/-- The lines of a test program, played on the ports, are the atomic resets and ticks, but for the host's side. -/
theorem run_programLevels (l : List Action) (h : Inv s) (hs : s.stage = encode .idle) (hplan : s.hostPlan = []) :
    ∃ t u, run (programLevels l).length (playLevels s (programLevels l)) = .next t ∧
      actionSteps l s = .next u ∧ SameButHost u t := by
  induction l generalizing s with
  | nil => exact ⟨s, s, run_zero s, rfl, sameButHost_refl s⟩
  | cons a l ih =>
    obtain ⟨u, hstep, hinv, hidle, hplan', hrun⟩ := run_actionLevels h hs a (programLevels l)
    obtain ⟨w, hplay, hsame, hempty⟩ :=
      hostNext_iterate_playLevels (hplan'.trans hplan) (actionLevels a) (programLevels l)
    have hidle' : w.stage = encode .idle := by
      rw [hsame]
      exact hidle
    obtain ⟨t, v, hrest, hsteps, hv⟩ := ih (hinv.of_sameButHost hsame) hidle' hempty
    obtain ⟨v', hsteps', hv'⟩ := hsame.symm.actionSteps hsteps
    rw [hplay] at hrun
    refine ⟨t, v', ?_, ?_, hv'.symm.trans hv⟩
    · rw [programLevels_cons, List.length_append, run_add hrun, hrest]
    · rw [actionSteps, hstep, andThen_of_next, hsteps']

/-! ### The run of a test program (47_sequencer_tick.md R221) -/

theorem throughLastTick_replicate_reset (n : Nat) : throughLastTick (List.replicate n .reset) = [] := by
  induction n with
  | zero => rfl
  | succ n ih => rw [List.replicate_succ, throughLastTick, ih]

theorem runProgram_of_construct {c : RawConfig} {l : List Action} (h : construct c = .next s) :
    runProgram { config := c, actions := l } = run (programLevels (throughLastTick l)).length
      (playLevels s (programLevels (throughLastTick l))) := by
  rw [runProgram, loadProgram, h, mapNext_of_next, andThen_of_next, runLevels]

/-- Lines that end in a TICK leave the state of an atomic tick. -/
theorem actionSteps_append_tick {l : List Action} (h : actionSteps (l ++ [.tick x]) s = .next u) :
    ∃ w, u = afterTick w x := by
  rw [actionSteps_append] at h
  obtain ⟨w, -, hlast⟩ := andThen_next h
  obtain ⟨v, hv, hnil⟩ := andThen_next hlast
  cases hnil
  obtain ⟨-, -, -, rfl⟩ := tick_next_iff.1 hv
  exact ⟨w, rfl⟩

/-! ### What a tick does not look at (10_state.md R22) -/

/-- What an earlier tick left in the record, on the lines and on the trace ports is not looked at. -/
theorem afterTick_replaced (s : State) (r : SampleRecord) (l : Lines) (o : TracePorts) (x : Stimulus) :
    afterTick { s with record := r, lines := l, trace := o } x = afterTick s x := rfl

end

end Sys2Proof.Machine

open Sys2Proof
open Sys2Proof.Machine

/-- Settles O34: the thirteen steps are `run_thirteen`, which gives the atomic tick's state but for the host's side, and
`Inv` has the readings in range, so the atomic tick answers too. -/
theorem thirteenStepsAreTheAtomicTick : Obligations.ThirteenStepsAreTheAtomicTick := by
  unfold Obligations.ThirteenStepsAreTheAtomicTick
  intro s hinv hidle hrst htick hplan
  have hC := hinv.channelInRange .C
  have hquiet : NoResetFor 13 s := noResetFor_succ_iff.2 ⟨hrst, hplan⟩
  exact ⟨_, _, run_thirteen hinv.configured hC.mean hC.plaus hidle hquiet htick, tick_of_inv hinv hidle _,
    sameButHost_hostNext_iterate 13 _⟩

/-- Settles O37, by induction on the lines: each is run as its atomic step (`run_actionLevels`), and the others are left
to play. -/
theorem playedActionsRunAsAtomicSteps : Obligations.PlayedActionsRunAsAtomicSteps := by
  unfold Obligations.PlayedActionsRunAsAtomicSteps
  intro s l hinv hidle hplan
  exact run_programLevels l hinv hidle hplan

/-- Settles O30: from both states the thirteen steps are the atomic tick (`run_thirteen`, which asks for the filters in
range only), and that looks at none of the replaced elements. -/
theorem tickReadsNoEarlierRecord : Obligations.TickReadsNoEarlierRecord := by
  unfold Obligations.TickReadsNoEarlierRecord
  intro s r l o hinv hidle hrst htick hplan
  have hC := hinv.channelInRange .C
  have hquiet : NoResetFor 13 s := noResetFor_succ_iff.2 ⟨hrst, hplan⟩
  have hreplaced := run_thirteen (s := { s with record := r, lines := l, trace := o }) hinv.configured hC.mean hC.plaus
    hidle hquiet htick
  rw [afterTick_replaced] at hreplaced
  exact ⟨_, run_thirteen hinv.configured hC.mean hC.plaus hidle hquiet htick, hreplaced⟩

/-- Settles O35: with the filters in range the atomic tick answers, and a run from `Inv` reaches its state. -/
theorem atomicTickGoesOn : Obligations.AtomicTickGoesOn := by
  unfold Obligations.AtomicTickGoesOn
  intro s x hinv hidle
  exact ⟨afterTick s x, tick_of_inv hinv hidle x, afterTick_stage s x, inv_afterTick hinv hidle x⟩

/-- Settles O36: one lemma for each way the atomic tick can answer; the range of the readings is the one on which the
temperature fits 32 bits (`fitsWord_mapCur_iff`). -/
theorem atomicTickRefusesOutsideItsDomain : Obligations.AtomicTickRefusesOutsideItsDomain := by
  unfold Obligations.AtomicTickRefusesOutsideItsDomain
  intro s x
  refine ⟨fun r h => tick_of_invalidConfig h x, fun hc hs => tick_in_progress hc hs x, ?refuses, ?answers⟩
  case refuses =>
    intro hc hs hout
    refine ⟨_, toInt_narrow_condition hc .C x.cur, tick_of_not_fitsWord hc hs ?_⟩
    rw [fitsWord_mapCur_iff]
    rintro ⟨hlo, hhi⟩
    exact hout.elim (not_lt.2 hlo) (not_lt.2 hhi)
  case answers =>
    intro hc hs hlo hhi
    have hfit := (fitsWord_mapCur_iff _).2 ⟨hlo, hhi⟩
    exact ⟨afterTick s x, tick_next hc hs hfit, toInt_afterTick_curMdeg hfit⟩

/-- Settles O38: the run is cut off after the last TICK (`throughLastTick_append`) and is the atomic steps up to there
(`run_programLevels`), of which the last one is a tick; with no TICK nothing is played. -/
theorem programRunEndsAfterItsLastTick : Obligations.ProgramRunEndsAfterItsLastTick := by
  unfold Obligations.ProgramRunEndsAfterItsLastTick
  intro c s hs
  constructor
  case left =>
    intro l x n
    obtain ⟨hr, rfl⟩ := construct_next hs
    have hc : cfgCheck (rawCfg c) = none := by rw [cfgCheck, cfgRaw_rawCfg hr, hr]
    obtain ⟨t, u, hrun, hsteps, hsame⟩ := run_programLevels (l ++ [.tick x]) (inv_resetOf hc) rfl rfl
    obtain ⟨w, rfl⟩ := actionSteps_append_tick hsteps
    refine ⟨t, _, ?run, hsteps, hsame, ?idle, ?strobe⟩
    case run => rw [runProgram_of_construct hs, throughLastTick_append, hrun]
    all_goals
      rw [hsame]
      rfl
  case right =>
    intro n
    rw [runProgram_of_construct hs, throughLastTick_replicate_reset]
    rfl

end

section
/-! PROOFS. The two filters over a list of inputs (40_mean_filter.md R104 to R109; 41_plausible_filter.md R126 to R129;
70_reset_and_hazards.md R275). -/

namespace Sys2Proof.Machine

/-! ### The mean filter -/

section
variable {n : Nat} {last v value : Int}

/-- With window 1 the weighted sum is the input (R107). -/
theorem meanUpdate_one (st : Option Int) (value : Int) : meanUpdate 1 st value = (some value, value) := by
  cases st with
  | none => rfl
  | some last => simp [tdiv_eq_tdiv]

/-- The closed form on non-negative operands (R108): the weighted sum is `n` times the last value and the difference. -/
theorem meanUpdate_of_nonneg (hn : 1 ≤ n) (hlast : 0 ≤ last) (hvalue : 0 ≤ value) :
    (meanUpdate n (some last) value).2 = last + (value - last) / n := by
  have hshares : 0 ≤ last * ((n : Int) - 1) := mul_nonneg hlast (by omega)
  have hsum : last * ((n : Int) - 1) + value = value - last + last * n := by ring
  rw [meanUpdate_some]
  dsimp only
  rw [tdiv_of_nonneg (by omega), hsum, Int.add_mul_ediv_right _ _ (by omega), add_comm]

/-- A filter at its input stays there. -/
theorem meanUpdate_self (hn : 1 ≤ n) (v : Int) : meanUpdate n (some v) v = (some v, v) := by
  obtain ⟨hlo, hhi⟩ := meanUpdate_mem (st := some v) (lo := v) (hi := v) hn
    (fun last h => by cases h; exact ⟨le_rfl, le_rfl⟩) ⟨le_rfl, le_rfl⟩
  have hout : (meanUpdate n (some v) v).2 = v := le_antisymm hhi hlo
  exact Prod.ext ((meanUpdate_fst n (some v) v).trans (congrArg some hout)) hout

theorem meanUpdate_fresh_or_self {st : Option Int} (hn : 1 ≤ n) (h : st = none ∨ st = some v) :
    meanUpdate n st v = (some v, v) := by
  rcases h with rfl | rfl
  · rfl
  · exact meanUpdate_self hn v

theorem meanOutputs_replicate {st : Option Int} (hn : 1 ≤ n) (h : st = none ∨ st = some v) (k : Nat) :
    meanOutputs n st (List.replicate k v) = List.replicate k v := by
  induction k generalizing st with
  | zero => rfl
  | succ k ih => rw [List.replicate_succ, meanOutputs, meanUpdate_fresh_or_self hn h, ih (.inr rfl)]

theorem meanAfter_self (hn : 1 ≤ n) (v : Int) (k : Nat) : meanAfter n v k v = v := by
  induction k with
  | zero => rfl
  | succ k ih => rw [meanAfter, meanUpdate_self hn v, ih]

/-! #### From above (R109 (b)) -/

/-- A quotient rounded down is the negated quotient of the negated number rounded up. -/
theorem neg_ediv_eq_neg_ceil {d n : Int} (hn : 0 < n) : -d / n = -((d + (n - 1)) / n) := by
  have hquot := Int.mul_ediv_add_emod (d + (n - 1)) n
  have hlo := Int.emod_nonneg (d + (n - 1)) hn.ne'
  have hhi := Int.emod_lt_of_pos (d + (n - 1)) hn
  refine ((Int.ediv_emod_unique (r := n - 1 - (d + (n - 1)) % n) hn).2 ⟨?_, by omega, by omega⟩).1
  rw [mul_neg]
  omega

theorem meanUpdate_of_above (hn : 1 ≤ n) (hv : 0 ≤ v) (h : v < last) :
    (meanUpdate n (some last) v).2 = last - ((last - v) + (n - 1)) / n := by
  rw [meanUpdate_of_nonneg hn (by omega) hv, ← neg_sub last v, neg_ediv_eq_neg_ceil (by omega)]
  exact (sub_eq_add_neg _ _).symm

theorem meanUpdate_falls (hn : 1 ≤ n) (hv : 0 ≤ v) (h : v < last) :
    v ≤ (meanUpdate n (some last) v).2 ∧ (meanUpdate n (some last) v).2 ≤ last - 1 := by
  obtain ⟨hlo, -⟩ := meanUpdate_mem (st := some last) (lo := v) (hi := last) hn
    (fun l hl => by cases hl; exact ⟨h.le, le_rfl⟩) ⟨le_rfl, h.le⟩
  have hshare : 1 ≤ ((last - v) + ((n : Int) - 1)) / n := Int.le_ediv_of_mul_le (by omega) (by omega)
  rw [meanUpdate_of_above hn hv h] at hlo ⊢
  omega

/-- Each update falls by at least 1, so as many updates as the distance reach the input. -/
theorem meanAfter_of_above (hn : 1 ≤ n) (hv : 0 ≤ v) {m j : Nat} (hlast : v ≤ last) (hdist : last - v ≤ m)
    (hj : m ≤ j) : meanAfter n v j last = v := by
  induction m generalizing last j with
  | zero =>
    obtain rfl : last = v := by omega
    exact meanAfter_self hn last j
  | succ m ih =>
    rcases hlast.eq_or_lt with rfl | hlt
    · exact meanAfter_self hn v j
    · obtain ⟨j, rfl⟩ : ∃ i, j = i + 1 := ⟨j - 1, by omega⟩
      obtain ⟨hlo, hhi⟩ := meanUpdate_falls hn hv hlt
      rw [meanAfter]
      exact ih hlo (by omega) (by omega)

/-! #### From below (R109 (c)) -/

/-- Less than a window short of the input the share is 0. -/
theorem meanAfter_of_near (hn : 1 ≤ n) (hlast : 0 ≤ last) (hle : last ≤ v) (hnear : v - last < n) (j : Nat) :
    meanAfter n v j last = last := by
  have hshare : (v - last) / n = 0 := Int.ediv_eq_zero_of_lt (by omega) hnear
  induction j with
  | zero => rfl
  | succ j ih => rw [meanAfter, meanUpdate_of_nonneg hn hlast (by omega), hshare, add_zero, ih]

/-- As long as the filter is a window short it rises by at least 1, and it never passes the input. -/
theorem meanUpdate_rises (hn : 1 ≤ n) (hlast : 0 ≤ last) (hfar : (n : Int) ≤ v - last) :
    last + 1 ≤ (meanUpdate n (some last) v).2 ∧ (meanUpdate n (some last) v).2 ≤ v := by
  obtain ⟨-, hhi⟩ := meanUpdate_mem (st := some last) (lo := last) (hi := v) hn
    (fun l hl => by cases hl; exact ⟨le_rfl, by omega⟩) ⟨by omega, le_rfl⟩
  have hshare : 1 ≤ (v - last) / n := Int.le_ediv_of_mul_le (by omega) (by omega)
  rw [meanUpdate_of_nonneg hn hlast (by omega)] at hhi ⊢
  omega

theorem meanAfter_of_below (hn : 1 ≤ n) {m : Nat} (hlast : 0 ≤ last) (hle : last ≤ v) (hdist : v - last ≤ m) :
    ∃ rest, 0 ≤ v - rest ∧ v - rest ≤ n - 1 ∧ ∀ j, m ≤ j → meanAfter n v j last = rest := by
  induction m generalizing last with
  | zero => exact ⟨last, by omega, by omega, fun j _ => meanAfter_of_near hn hlast hle (by omega) j⟩
  | succ m ih =>
    rcases lt_or_ge (v - last) n with hnear | hfar
    · exact ⟨last, by omega, by omega, fun j _ => meanAfter_of_near hn hlast hle hnear j⟩
    · obtain ⟨hlo, hhi⟩ := meanUpdate_rises hn hlast hfar
      obtain ⟨rest, hshort, hshort', hstays⟩ := ih (by omega) hhi (by omega)
      refine ⟨rest, hshort, hshort', fun j hj => ?_⟩
      obtain ⟨j, rfl⟩ : ∃ i, j = i + 1 := ⟨j - 1, by omega⟩
      exact hstays j (by omega)

end

/-! ### The plausibility filter -/

section
variable {diff numFails fails : Nat} {x : Int}

/-- With no tolerance nothing is rejected (R129). -/
theorem plausUpdate_no_tolerance (diff : Nat) (st : Option Int × Nat) (value : Int) :
    plausUpdate diff 0 st value = ((some value, if st.1 = none then st.2 else 0), value) := by
  rcases plausUpdate_cases diff 0 st value with htake | ⟨x, -, -, hle, -⟩
  · exact htake
  · exact absurd hle (Nat.not_succ_le_zero _)

/-- From a count `fails`, what is left of the tolerance is rejected and the next input is taken (R128). -/
theorem plausOutputs_of_out_of_band {early : List Int} {latest : Int} (hlen : fails + early.length = numFails)
    (hout : ∀ v ∈ early ++ [latest], diff < (x - v).natAbs) :
    plausOutputs diff numFails (some x, fails) (early ++ [latest]) =
      (List.replicate early.length x ++ [latest], (some latest, 0)) := by
  induction early generalizing fails with
  | nil =>
    have hforce := plausUpdate_force (numFails := numFails) (fails := fails) (hout latest (by simp))
      (by simp at hlen; omega)
    simp [plausOutputs, hforce]
  | cons w early ih =>
    rw [List.length_cons] at hlen
    have hreject := plausUpdate_reject (numFails := numFails) (fails := fails) (hout w (by simp)) (by omega)
    have hrest := ih (fails := fails + 1) (by omega) (fun v hv => hout v (List.mem_cons_of_mem w hv))
    simp [plausOutputs, hreject, hrest, List.replicate_succ]

theorem plausOutputs_no_tolerance (diff : Nat) (last : Option Int) (xs : List Int) :
    (plausOutputs diff 0 (last, 0) xs).1 = xs ∧ (plausOutputs diff 0 (last, 0) xs).2.2 = 0 := by
  induction xs generalizing last with
  | nil => exact ⟨rfl, rfl⟩
  | cons y xs ih =>
    obtain ⟨houtputs, hcount⟩ := ih (some y)
    simp only [plausOutputs, plausUpdate_no_tolerance, ite_self]
    exact ⟨congrArg (y :: ·) houtputs, hcount⟩

/-- Inputs each in band of the one before are each in band of the last value. -/
theorem plausOutputs_of_slow_ramp {xs : List Int}
    (h : List.IsChain (fun a b : Int => (a - b).natAbs ≤ diff) (x :: xs)) :
    (plausOutputs diff numFails (some x, fails) xs).1 = xs := by
  induction xs generalizing x fails with
  | nil => rfl
  | cons y xs ih =>
    obtain ⟨hband, hrest⟩ := List.isChain_cons_cons.1 h
    simp only [plausOutputs, plausUpdate_accept hband]
    exact congrArg (y :: ·) (ih hrest)

end

end Sys2Proof.Machine

open Sys2Proof
open Sys2Proof.Machine

/-- Settles O42, by induction on the inputs: an update's output is within the bounds (`meanUpdate_mem`), and it is the
next last value. -/
theorem meanOutputsStayWithinTheInputs : Obligations.MeanOutputsStayWithinTheInputs := by
  unfold Obligations.MeanOutputsStayWithinTheInputs
  intro n lo hi st xs hn
  induction xs generalizing st with
  | nil =>
    intro _ _ y hy
    cases hy
  | cons x xs ih =>
    intro hst hxs y hy
    have hout := meanUpdate_mem hn hst (hxs x List.mem_cons_self)
    rw [meanOutputs, List.mem_cons] at hy
    rcases hy with rfl | hy
    · exact hout
    · refine ih _ ?_ (fun z hz => hxs z (List.mem_cons_of_mem x hz)) y hy
      intro last hlast
      rw [meanUpdate_fst] at hlast
      cases hlast
      exact hout

/-- Settles O43, by induction on the inputs. -/
theorem meanOfWindowOnePassesThrough : Obligations.MeanOfWindowOnePassesThrough := by
  unfold Obligations.MeanOfWindowOnePassesThrough
  intro st xs
  refine ⟨?_, fun value => congrArg Prod.fst (meanUpdate_one st value)⟩
  induction xs generalizing st with
  | nil => rfl
  | cons x xs ih => rw [meanOutputs, meanUpdate_one, ih]

/-- Settles O44: by a positive divisor the quotient toward minus infinity is that of `meanUpdate_of_nonneg`. -/
theorem meanClosedForm : Obligations.MeanClosedForm := by
  unfold Obligations.MeanClosedForm
  intro n last value hn hlast hvalue
  rw [meanUpdate_of_nonneg hn hlast hvalue, Int.fdiv_eq_ediv_of_nonneg _ n.cast_nonneg]

/-- Settles O45: at the input the filter stays; from above and from below the distance falls by at least 1 in each
update until it is 0, or less than a window. -/
theorem meanOnAConstantInput : Obligations.MeanOnAConstantInput := by
  unfold Obligations.MeanOnAConstantInput
  intro n v hn hv
  refine ⟨meanOutputs_replicate hn (.inl rfl), ?falls, ?reaches, ?rises, ?rests⟩
  case falls =>
    intro last h
    exact ⟨meanUpdate_of_above hn hv h, meanUpdate_falls hn hv h⟩
  case reaches =>
    intro last h
    exact ⟨(last - v).toNat, fun j hj => meanAfter_of_above hn hv h.le (by omega) hj⟩
  case rises =>
    intro last hlast _
    exact meanUpdate_of_nonneg hn hlast hv
  case rests =>
    intro last hlast hle
    obtain ⟨rest, hshort, hshort', hstays⟩ := meanAfter_of_below (m := (v - last).toNat) hn hlast hle (by omega)
    refine ⟨(v - last).toNat, fun j hj => ?_⟩
    rw [hstays j hj, hstays _ le_rfl]
    exact ⟨rfl, hshort, hshort'⟩

/-- Settles O46: what an update can do is said by `plausUpdate_cases`; the count it stores is bounded by
`plausUpdate_fails_le`. -/
theorem plausKeepsItsCountAndEchoesItsInputs : Obligations.PlausKeepsItsCountAndEchoesItsInputs := by
  unfold Obligations.PlausKeepsItsCountAndEchoesItsInputs
  intro diff numFails st value
  have hcases := plausUpdate_cases diff numFails st value
  refine ⟨fun hle _ => ⟨plausUpdate_fails_le value hle, ?unset⟩, ?echo, ?stored⟩
  case unset =>
    rcases hcases with htake | ⟨x, -, -, -, hkeep⟩
    · rw [htake]
      exact nofun
    · rw [hkeep]
      exact nofun
  case echo =>
    rcases hcases with htake | ⟨x, hx, -, -, hkeep⟩
    · rw [htake]
      exact .inl rfl
    · rw [hkeep]
      exact .inr hx
  case stored =>
    rcases hcases with htake | ⟨x, -, -, -, hkeep⟩
    · rw [htake]
    · rw [hkeep]

/-- Settles O47: the run of rejections is `plausOutputs_of_out_of_band` from a count of 0, and the example is
evaluated. -/
theorem plausRetriesAreBounded : Obligations.PlausRetriesAreBounded := by
  unfold Obligations.PlausRetriesAreBounded
  refine ⟨?retries, fun _ numFails fails _ _ h => plausUpdate_accept h numFails fails, by decide⟩
  case retries =>
    rintro diff numFails x latest early rfl hout
    exact plausOutputs_of_out_of_band (Nat.zero_add _) hout

/-- Settles O48, by induction on the inputs. -/
theorem plausWithoutToleranceIsAPassThrough : Obligations.PlausWithoutToleranceIsAPassThrough := by
  unfold Obligations.PlausWithoutToleranceIsAPassThrough
  intro diff last xs
  exact plausOutputs_no_tolerance diff last xs

/-- Settles O49, by induction along the chain of inputs. -/
theorem slowRampPassesThePlausibilityFilter : Obligations.SlowRampPassesThePlausibilityFilter := by
  unfold Obligations.SlowRampPassesThePlausibilityFilter
  intro diff numFails fails x xs h
  exact plausOutputs_of_slow_ramp h

end

section
/-! PROOFS. Where the model gives no next state, and how a step runs the selected operation. -/

namespace Sys2Proof.Machine

/-! ### Refusals (60_exceptions.md R231; 30_encoding.md R86; 43_temperature_mapping.md R161) -/

theorem exec_of_invalidConfig {s : State} {r : ConfigReason} (h : cfgCheck s.cfg = some r) (i : Instr) :
    exec i s = .refused (.invalidConfig r) := by
  cases i
  case mapC =>
    change execMapC s = _
    unfold execMapC
    split
    · exact onInstance_invalid h _
    · exact onInstance_invalid h _
  all_goals exact onInstance_invalid h _

theorem step_of_reserved {s : State} (hc : cfgCheck s.cfg = none) (hr : s.pins.rst = false)
    (hs : codeAssigned s.stage = false) : step s = .refused (.stuckStage s.stage) := by
  have hfetch : fetch s = .error (.reservedCode s.stage) := decode_of_not_codeAssigned hs
  simp [step, cycle, onInstance_valid hc, hr, hfetch]

end Sys2Proof.Machine

open Sys2Proof
open Sys2Proof.Machine

/-- Settles O3: every operation and the step begin with the check of the configuration. -/
theorem invalidConfigurationHasNoBehaviour : Obligations.InvalidConfigurationHasNoBehaviour := by
  unfold Obligations.InvalidConfigurationHasNoBehaviour
  intro s r h
  exact ⟨exec_of_invalidConfig h, onInstance_invalid h _⟩

/-- Settles O5: the two directions are `decode_encode` and `encode_of_decode`. -/
theorem decodeUndoesEncode : Obligations.DecodeUndoesEncode := by
  unfold Obligations.DecodeUndoesEncode
  exact ⟨decode_encode, fun _ _ => encode_of_decode⟩

/-- Settles O7: the step is the cycle over `exec` (`cycle_run`); the host's next levels are the first planned ones. -/
theorem stepRunsTheSelectedOperation : Obligations.StepRunsTheSelectedOperation := by
  unfold Obligations.StepRunsTheSelectedOperation
  intro s i hc hr hdecode _
  have hcycle : step s = mapNext hostNext (exec i (strobeFall s)) := cycle_run hc hr hdecode
  rw [strobeFall_eq] at hcycle
  exact ⟨hcycle, fun _ => hostNext_nil, fun _ _ _ => hostNext_cons⟩

/-- Settles O8: none of the three codes is assigned, so the fetch fails under the code's own name. -/
theorem reservedCodesAreStuck : Obligations.ReservedCodesAreStuck := by
  unfold Obligations.ReservedCodesAreStuck
  intro s hc hr hs
  have hreserved : codeAssigned s.stage = false := by
    rcases hs with h | h | h
    all_goals
      rw [h]
      decide
  exact step_of_reserved hc hr hreserved

/-- Settles O20: outside the stated range the exact temperature does not fit 32 bits (`fitsWord_mapCur_iff`). -/
theorem mapCRefusesWhatDoesNotFit : Obligations.MapCRefusesWhatDoesNotFit := by
  unfold Obligations.MapCRefusesWhatDoesNotFit
  intro s hc hout
  have hfit : fitsWord (mapCur s.record.curClip.toInt) = false := by
    rw [Bool.eq_false_iff, ne_eq, fitsWord_mapCur_iff]
    omega
  exact execMapC_refuses hc hfit

end

section
/-! PROOFS. Ticks that the filters pass through: constant samples since reset, and windows of 1 without tolerance
(40_mean_filter.md R109; 47_sequencer_tick.md R218, R219). -/

namespace Sys2Proof.Machine

/-! ### A channel whose filters hold nothing but `v` -/

/-- The filters of channel `c` hold `v` or nothing, and no failure is counted. -/
structure SettledOn (s : State) (c : Channel) (v : Int) : Prop where
  mean : meanLast (meanOf s c) = none ∨ meanLast (meanOf s c) = some v
  plaus : plausLast (plausOf s c) = none ∨ plausLast (plausOf s c) = some v
  fails : (plausOf s c).fails.toNat = 0

section
variable {s : State} {c : Channel} {v : Int} {x : Stimulus}

theorem plausUpdate_fresh_or_self {diff numFails : Nat} {st : Option Int} (h : st = none ∨ st = some v) :
    plausUpdate diff numFails (st, 0) v = ((some v, 0), v) := by
  rcases h with rfl | rfl
  · rfl
  · exact plausUpdate_accept (by simp) numFails 0

/-- Under either order both filters pass `v` and hold it. -/
theorem SettledOn.condition (h : SettledOn s c v) (hc : cfgCheck s.cfg = none) :
    condition s c v = ((some v, 0), some v, v) := by
  have hmean := meanUpdate_fresh_or_self (one_le_windowOf hc c) h.mean
  have hplaus := plausUpdate_fresh_or_self (diff := diffOf s c) (numFails := failsOf s c) h.plaus
  cases horder : s.cfg.filterOrder with
  | plausThenMean => simp [condition_plausThenMean horder, h.fails, hplaus, hmean]
  | meanThenPlaus => simp [condition_meanThenPlaus horder, h.fails, hplaus, hmean]

/-- A state in IDLE whose filters have seen no samples but `x`. -/
structure ConstantSoFar (x : Stimulus) (s : State) : Prop where
  inv : Inv s
  idle : s.stage = encode .idle
  setpoint : SettledOn s .S (clip x.set.toInt clipMin clipMax)
  sensor : SettledOn s .C (clip x.cur.toInt clipMin clipMax)

theorem constantSoFar_resetOf {cfg : Cfg} (hc : cfgCheck cfg = none) (x : Stimulus) :
    ConstantSoFar x (State.resetOf cfg) :=
  ⟨inv_resetOf hc, rfl, ⟨.inl rfl, .inl rfl, rfl⟩, ⟨.inl rfl, .inl rfl, rfl⟩⟩

theorem meanLast_meanRegs (w : Word) : meanLast (meanRegs (some (clip w.toInt clipMin clipMax))) =
    some (clip w.toInt clipMin clipMax) := congrArg some (toInt_narrow_clip w)

theorem plausLast_plausRegs (w : Word) (fails : Nat) :
    plausLast (plausRegs (some (clip w.toInt clipMin clipMax), fails)) = some (clip w.toInt clipMin clipMax) :=
  congrArg some (toInt_narrow_clip w)

theorem settledOn_of_regs (w : Word) (hmean : meanOf s c = meanRegs (some (clip w.toInt clipMin clipMax)))
    (hplaus : plausOf s c = plausRegs (some (clip w.toInt clipMin clipMax), 0)) :
    SettledOn s c (clip w.toInt clipMin clipMax) where
  mean := .inr (by rw [hmean, meanLast_meanRegs])
  plaus := .inr (by rw [hplaus, plausLast_plausRegs])
  fails := by rw [hplaus]; rfl

/-- One more tick with the same samples keeps it so. -/
theorem ConstantSoFar.afterTick (h : ConstantSoFar x s) : ConstantSoFar x (afterTick s x) := by
  have hS := h.setpoint.condition h.inv.configured
  have hC := h.sensor.condition h.inv.configured
  exact {
    inv := inv_afterTick h.inv h.idle x
    idle := rfl
    setpoint := settledOn_of_regs x.set (by simp [meanOf, Machine.afterTick, hS])
      (by simp [plausOf, Machine.afterTick, hS])
    sensor := settledOn_of_regs x.cur (by simp [meanOf, Machine.afterTick, hC])
      (by simp [plausOf, Machine.afterTick, hC]) }

theorem ConstantSoFar.tick (h : ConstantSoFar x s) : tick s x = .next (Machine.afterTick s x) :=
  tick_of_inv h.inv h.idle x

/-- The conditioned readings of the tick are the clipped samples. -/
theorem ConstantSoFar.readings (h : ConstantSoFar x s) :
    (Machine.afterTick s x).record.setClip.toInt = clip x.set.toInt clipMin clipMax ∧
      (Machine.afterTick s x).record.curClip.toInt = clip x.cur.toInt clipMin clipMax := by
  have hS := h.setpoint.condition h.inv.configured
  have hC := h.sensor.condition h.inv.configured
  simp [Machine.afterTick, hS, hC, toInt_narrow_clip]

/-- The temperatures of the tick are those of the clipped samples. -/
theorem ConstantSoFar.temperatures (h : ConstantSoFar x s) :
    (Machine.afterTick s x).record.setMdeg.toInt = mapSet (clip x.set.toInt clipMin clipMax) ∧
      (Machine.afterTick s x).record.curMdeg.toInt = mapCur (clip x.cur.toInt clipMin clipMax) := by
  have hS := h.setpoint.condition h.inv.configured
  have hC := h.sensor.condition h.inv.configured
  obtain ⟨-, -, hfit, -⟩ := tick_next_iff.1 h.tick
  rw [toInt_afterTick_setMdeg, toInt_afterTick_curMdeg hfit, hS, hC]
  exact ⟨rfl, rfl⟩

theorem ConstantSoFar.cooling (h : ConstantSoFar x s) : (Machine.afterTick s x).cooling =
    ctrlStep (halfBandOf s) s.cooling (mapSet (clip x.set.toInt clipMin clipMax))
      (mapCur (clip x.cur.toInt clipMin clipMax)) := by
  have hS := h.setpoint.condition h.inv.configured
  have hC := h.sensor.condition h.inv.configured
  simp [Machine.afterTick, hS, hC]

/-- The count 0 is a multiple of every divisor, so the indicator changes. -/
theorem afterTick_led_of_count_zero (h : s.act.ledCnt = 0) (x : Stimulus) :
    (Machine.afterTick s x).lines.led = !s.act.ledPhase := by
  obtain ⟨hlines, hact⟩ := afterTick_act s x
  rw [hlines, hact, h]
  dsimp only
  apply ledNextPhase_of_mod_eq_zero
  exact Nat.zero_mod _

/-! ### Lists of ticks -/

theorem ticks_concat {t u : State} {xs : List Stimulus} (h : ticks xs s = .next t) (hx : Machine.tick t x = .next u) :
    ticks (xs ++ [x]) s = .next u := by
  have hfirst : actionSteps (xs.map .tick) s = .next t := h
  have hlast : actionSteps [.tick x] t = .next u := congrArg (andThen · (actionSteps [])) hx
  rw [ticks, List.map_append, actionSteps_append, hfirst, andThen_of_next]
  exact hlast

/-! ### The other filter order (47_sequencer_tick.md R218) -/

/-- The same state under the filter order `o`. -/
def withOrder (o : FilterOrder) (s : State) : State := { s with cfg := { s.cfg with filterOrder := o } }

theorem cfgCheck_filterOrder (cfg : Cfg) (o : FilterOrder) :
    cfgCheck { cfg with filterOrder := o } = cfgCheck cfg := rfl

/-- Where the conditioning of both channels is the same under both orders, so is the tick, a refusal included. -/
theorem tick_withOrder {o : FilterOrder}
    (hS : condition (withOrder o s) .S (clip x.set.toInt clipMin clipMax) =
      condition s .S (clip x.set.toInt clipMin clipMax))
    (hC : condition (withOrder o s) .C (clip x.cur.toInt clipMin clipMax) =
      condition s .C (clip x.cur.toInt clipMin clipMax)) :
    Machine.tick (withOrder o s) x =
      mapNext (fun t => { t with cfg := { s.cfg with filterOrder := o } }) (Machine.tick s x) := by
  have hafter : Machine.afterTick (withOrder o s) x =
      { Machine.afterTick s x with cfg := { s.cfg with filterOrder := o } } := by
    simp only [Machine.afterTick, hS, hC]
    rfl
  have hcheck : cfgCheck (withOrder o s).cfg = cfgCheck s.cfg := cfgCheck_filterOrder s.cfg o
  cases hc : cfgCheck s.cfg with
  | some r => rw [tick_of_invalidConfig hc, tick_of_invalidConfig (hcheck.trans hc), mapNext]
  | none =>
    by_cases hs : s.stage = encode .idle
    · by_cases hfit : fitsWord (mapCur (condition s .C (clip x.cur.toInt clipMin clipMax)).2.2) = true
      · rw [tick_next hc hs hfit, tick_next (hcheck.trans hc) hs (hC ▸ hfit), mapNext_of_next, hafter]
      · rw [tick_of_not_fitsWord hc hs hfit, tick_of_not_fitsWord (hcheck.trans hc) hs (hC ▸ hfit), mapNext, hC]
    · rw [tick_in_progress hc hs, tick_in_progress (hcheck.trans hc) hs, mapNext]
      rfl

/-- With window 1 and tolerance 0 both filters pass every reading, in either order. -/
theorem condition_of_passThrough (hwindow : windowOf s c = 1) (hfails : failsOf s c = 0) (y : Int) : condition s c y =
    ((some y, if plausLast (plausOf s c) = none then (plausOf s c).fails.toNat else 0), some y, y) := by
  cases horder : s.cfg.filterOrder with
  | plausThenMean =>
    simp only [condition_plausThenMean horder, hwindow, hfails, plausUpdate_no_tolerance, meanUpdate_one]
  | meanThenPlaus =>
    simp only [condition_meanThenPlaus horder, hwindow, hfails, plausUpdate_no_tolerance, meanUpdate_one]

theorem condition_withOrder_of_passThrough (o : FilterOrder) (hwindow : windowOf s c = 1) (hfails : failsOf s c = 0)
    (y : Int) : condition (withOrder o s) c y = condition s c y := by
  have hwindow' : windowOf (withOrder o s) c = 1 := by cases c <;> exact hwindow
  have hfails' : failsOf (withOrder o s) c = 0 := by cases c <;> exact hfails
  have hplaus : plausOf (withOrder o s) c = plausOf s c := by cases c <;> rfl
  rw [condition_of_passThrough hwindow' hfails', condition_of_passThrough hwindow hfails, hplaus]

theorem SettledOn.withOrder (h : SettledOn s c v) (o : FilterOrder) : SettledOn (withOrder o s) c v := by
  cases c
  all_goals exact ⟨h.mean, h.plaus, h.fails⟩

theorem ConstantSoFar.tick_withOrder (h : ConstantSoFar x s) (o : FilterOrder) :
    Machine.tick (Machine.withOrder o s) x = .next (Machine.withOrder o (Machine.afterTick s x)) := by
  have hc := h.inv.configured
  have hc' : cfgCheck (Machine.withOrder o s).cfg = none := hc
  have hS : condition (Machine.withOrder o s) .S _ = condition s .S _ :=
    ((h.setpoint.withOrder o).condition hc').trans (h.setpoint.condition hc).symm
  have hC : condition (Machine.withOrder o s) .C _ = condition s .C _ :=
    ((h.sensor.withOrder o).condition hc').trans (h.sensor.condition hc).symm
  rw [Machine.tick_withOrder hS hC, h.tick]
  rfl

theorem ConstantSoFar.ticks_withOrder (h : ConstantSoFar x s) (o : FilterOrder) (k : Nat) :
    ∃ t, Machine.ticks (List.replicate k x) s = .next t ∧
      Machine.ticks (List.replicate k x) (Machine.withOrder o s) = .next (Machine.withOrder o t) ∧
      ConstantSoFar x t ∧ t.cfg = s.cfg := by
  induction k with
  | zero => exact ⟨s, rfl, rfl, h, rfl⟩
  | succ k ih =>
    obtain ⟨t, hticks, hticks', ht, hcfg⟩ := ih
    rw [List.replicate_succ']
    exact ⟨_, ticks_concat hticks ht.tick, ticks_concat hticks' (ht.tick_withOrder o), ht.afterTick, hcfg⟩

theorem ConstantSoFar.ticks (h : ConstantSoFar x s) (k : Nat) :
    ∃ t, Machine.ticks (List.replicate k x) s = .next t ∧ ConstantSoFar x t := by
  obtain ⟨t, hticks, -, ht, -⟩ := h.ticks_withOrder s.cfg.filterOrder k
  exact ⟨t, hticks, ht⟩

end

end Sys2Proof.Machine

open Sys2Proof
open Sys2Proof.Machine

/-- Settles O39: the thirteen steps are the atomic tick (`run_tickLevels`) of a state whose filters hold nothing, and
the count 0 is a multiple of every divisor. -/
theorem firstTickIsUnfiltered : Obligations.FirstTickIsUnfiltered := by
  unfold Obligations.FirstTickIsUnfiltered
  intro c x hc
  have hconstant := constantSoFar_resetOf hc x
  have hrun := run_tickLevels hconstant.inv hconstant.idle x []
  rw [List.append_nil] at hrun
  obtain ⟨hset, hcur⟩ := hconstant.readings
  obtain ⟨hsetMdeg, hcurMdeg⟩ := hconstant.temperatures
  have hled : (afterTick (State.resetOf c) x).lines.led = true := afterTick_led_of_count_zero rfl x
  have hsame := (sameButHost_playLevels (afterTick (State.resetOf c) x) (tickLevels x)).trans
    (sameButHost_hostNext_iterate 13 _)
  refine ⟨_, hrun, ?_⟩
  rw [hsame]
  exact ⟨hset, hcur, hsetMdeg, hcurMdeg, hconstant.cooling, congrArg (Lines.mk _) hled⟩

/-- Settles O40: the state before the last tick has seen no other samples (`ConstantSoFar.ticks`), so the last tick's
readings are the clipped samples; 400 is in the middle band. -/
theorem constantSamplesStayUnfiltered : Obligations.ConstantSamplesStayUnfiltered := by
  unfold Obligations.ConstantSamplesStayUnfiltered
  intro c x k hc
  obtain ⟨t, hticks, ht⟩ := (constantSoFar_resetOf hc x).ticks k
  obtain ⟨hset, hcur⟩ := ht.readings
  obtain ⟨hsetMdeg, -⟩ := ht.temperatures
  rw [List.replicate_succ']
  refine ⟨_, ticks_concat hticks ht.tick, hset, hcur, ?_⟩
  intro h400
  rw [h400] at hsetMdeg
  exact BitVec.eq_of_toInt_eq hsetMdeg

/-- Settles O41: where both filters pass every reading, and where they hold the constant samples, the conditioning is
the same under both orders, and so is the tick (`tick_withOrder`). -/
theorem filterOrdersAgreeOnPassThroughAndConstantInput :
    Obligations.FilterOrdersAgreeOnPassThroughAndConstantInput := by
  unfold Obligations.FilterOrdersAgreeOnPassThroughAndConstantInput
  constructor
  case left =>
    intro s o x hnS hnC hfailsS hfailsC
    have hS := condition_withOrder_of_passThrough (s := s) (c := .S) o (congrArg BitVec.toNat hnS)
      (congrArg BitVec.toNat hfailsS)
    have hC := condition_withOrder_of_passThrough (s := s) (c := .C) o (congrArg BitVec.toNat hnC)
      (congrArg BitVec.toNat hfailsC)
    exact tick_withOrder (hS _) (hC _)
  case right =>
    intro c o x k hc
    obtain ⟨t, hticks, hticks', -, hcfg⟩ := (constantSoFar_resetOf hc x).ticks_withOrder o k
    refine ⟨t, hticks, hticks'.trans ?_⟩
    rw [withOrder, hcfg, State.resetOf_cfg]

end

section
/-! PROOFS. The compressor and the indicator over a list of ticks (44_control_hysteresis.md R176; 45_actuation.md R186,
R189, R190). -/

namespace Sys2Proof.Machine

/-! ### The states of a list of ticks -/

section
variable {xs : List Stimulus} {u : Nat → State} {k : Nat}

theorem TickRun.inv (h : TickRun xs u) (hinv : Inv (u 0)) (hk : k ≤ xs.length) :
    Inv (u k) ∧ (u k).cfg = (u 0).cfg := by
  induction k with
  | zero => exact ⟨hinv, rfl⟩
  | succ k ih =>
    obtain ⟨hinvk, hcfg⟩ := ih (by omega)
    obtain ⟨-, hidle, -, hnext⟩ := tick_next_iff.1 (h k hk)
    rw [hnext]
    exact ⟨inv_afterTick hinvk hidle _, hcfg⟩

/-- Each tick's decision is the control law's, on its own temperatures and the decision before it. -/
theorem TickRun.cooling (h : TickRun xs u) (hinv : Inv (u 0)) (hk : k < xs.length) : (u (k + 1)).cooling =
    ctrlStep (u 0).cfg.h.toNat (u k).cooling (u (k + 1)).record.setMdeg.toInt (u (k + 1)).record.curMdeg.toInt := by
  obtain ⟨-, hcfg⟩ := h.inv hinv hk.le
  obtain ⟨-, -, hfit, hnext⟩ := tick_next_iff.1 (h k hk)
  rw [hnext, toInt_afterTick_setMdeg, toInt_afterTick_curMdeg hfit, ← hcfg]
  rfl

/-- Each tick drives `comp_o` with its decision. -/
theorem TickRun.line (h : TickRun xs u) (hk : k < xs.length) : (u (k + 1)).lines.comp = (u (k + 1)).cooling := by
  obtain ⟨-, -, -, hnext⟩ := tick_next_iff.1 (h k hk)
  rw [hnext]
  rfl

/-- Each tick advances the count by one, modulo `LED_CNT_MOD`. -/
theorem TickRun.ledCnt_succ (h : TickRun xs u) (hinv : Inv (u 0)) (hk : k < xs.length) :
    (u (k + 1)).act.ledCnt.toNat = ((u k).act.ledCnt.toNat + 1) % (u 0).cfg.ledCntMod.toNat := by
  obtain ⟨-, hcfg⟩ := h.inv hinv hk.le
  obtain ⟨hc, -, -, hnext⟩ := tick_next_iff.1 (h k hk)
  rw [hnext, ← hcfg]
  exact toNat_ledCntOut hc

theorem TickRun.ledCnt (h : TickRun xs u) (hinv : Inv (u 0)) (hk : k ≤ xs.length) :
    (u k).act.ledCnt.toNat = ((u 0).act.ledCnt.toNat + k) % (u 0).cfg.ledCntMod.toNat := by
  induction k with
  | zero => exact (Nat.mod_eq_of_lt hinv.count).symm
  | succ k ih => rw [h.ledCnt_succ hinv hk, ih (by omega), Nat.mod_add_mod, add_assoc]

theorem ledNextPhase_ne_iff (cnt divisor : Nat) (phase : Bool) :
    ledNextPhase cnt divisor phase ≠ phase ↔ cnt % divisor = 0 := by
  by_cases hmod : cnt % divisor = 0
  · rw [ledNextPhase_of_mod_eq_zero hmod]
    simp [hmod]
  · rw [ledNextPhase_of_mod_ne_zero hmod]
    simp [hmod]

/-- A tick changes `led_o` exactly when the count before it is a multiple of the duty divisor of its command. -/
theorem TickRun.led_ne_iff (h : TickRun xs u) (hinv : Inv (u 0)) (hk : k < xs.length) :
    (u (k + 1)).lines.led ≠ (u k).lines.led ↔
      (u k).act.ledCnt.toNat % dutyDivisor (u (k + 1)).lines.comp (u 0).cfg.ledIdleDiv.toNat = 0 := by
  obtain ⟨hinvk, hcfg⟩ := h.inv hinv hk.le
  obtain ⟨-, -, -, hnext⟩ := tick_next_iff.1 (h k hk)
  rw [hinvk.led, hnext, ← hcfg]
  exact ledNextPhase_ne_iff _ _ _

theorem TickRun.led_ne_iff_of_idle (h : TickRun xs u) (hinv : Inv (u 0)) (hk : k < xs.length)
    (hidle : (u (k + 1)).lines.comp = false) :
    (u (k + 1)).lines.led ≠ (u k).lines.led ↔ (u k).act.ledCnt.toNat % (u 0).cfg.ledIdleDiv.toNat = 0 := by
  rw [h.led_ne_iff hinv hk, hidle, dutyDivisor_idle]

theorem TickRun.led_ne_of_cooling (h : TickRun xs u) (hinv : Inv (u 0)) (hk : k < xs.length)
    (hcooling : (u (k + 1)).lines.comp = true) : (u (k + 1)).lines.led ≠ (u k).lines.led := by
  rw [h.led_ne_iff hinv hk, hcooling, dutyDivisor_cooling]
  exact Nat.mod_one _

end

/-! ### When the control law changes the state (44_control_hysteresis.md R171) -/

section
variable {h setpoint current : Int}

theorem ctrlStep_from_off (hon : ctrlStep h false setpoint current = true) : setpoint + h ≤ current := by
  by_contra hlt
  rw [ctrlStep, if_neg hlt] at hon
  simp at hon

theorem ctrlStep_from_on (hoff : ctrlStep h true setpoint current = false) : current ≤ setpoint - h := by
  by_contra hgt
  rw [ctrlStep, if_neg hgt] at hoff
  simp at hoff

end

/-! ### The parity of a number of changes -/

/-- A bit that changes where a number goes up by one, and stays where the number does, tells the number's parity. -/
theorem eq_xor_parity {b : Nat → Bool} {changes : Nat → Nat} {m : Nat} (hzero : changes 0 = 0)
    (hstep : ∀ k < m, (b (k + 1) ≠ b k ∧ changes (k + 1) = changes k + 1) ∨
      (b (k + 1) = b k ∧ changes (k + 1) = changes k)) : b m = (b 0 ^^ decide (changes m % 2 = 1)) := by
  induction m with
  | zero => simp [hzero]
  | succ m ih =>
    have hm := ih fun k hk => hstep k (by omega)
    rcases hstep m m.lt_succ_self with ⟨hne, hup⟩ | ⟨heq, hsame⟩
    · have hflip : decide (changes (m + 1) % 2 = 1) = !decide (changes m % 2 = 1) := by
        rw [hup, ← decide_not, decide_eq_decide]
        omega
      rw [Bool.eq_not.2 hne, hm, hflip, Bool.xor_not]
    · rw [heq, hm, hsame]

/-- The quotient of `m` by `d`, rounded up (45_actuation.md R189). -/
def ceilQuot (m d : Nat) : Nat := (m + (d - 1)) / d

theorem ceilQuot_mono {m m' : Nat} (h : m ≤ m') (d : Nat) : ceilQuot m d ≤ ceilQuot m' d :=
  Nat.div_le_div_right (Nat.add_le_add_right h _)

/-- The quotient rounded up goes up after a multiple, and only there. -/
theorem ceilQuot_succ {m d : Nat} (hd : 1 ≤ d) : ceilQuot (m + 1) d = ceilQuot m d + if m % d = 0 then 1 else 0 := by
  have hnext : m + (d - 1) + 1 = m + d := by omega
  have hdvd : d ∣ m + (d - 1) + 1 ↔ m % d = 0 := by
    rw [hnext, Nat.dvd_add_self_right, Nat.dvd_iff_mod_eq_zero]
  have hsucc := Nat.succ_div (a := m + (d - 1)) (b := d)
  simp only [hdvd] at hsucc
  rw [ceilQuot, ceilQuot, Nat.add_right_comm, hsucc]

/-! ### The distance of two multiples on a count that wraps -/

/-- From a multiple `a` of `d`, counting modulo `M`, the next multiple is `a + d`, or the 0 of the wrap if that comes
first. -/
theorem next_multiple {a d M e : Nat} (hd : 1 ≤ d) (ha : a % d = 0) (hlt : a < M) (he : 0 < e)
    (hmult : (a + e) % M % d = 0) (hbetween : ∀ m, 0 < m → m < e → (a + m) % M % d ≠ 0) :
    ((a + e) % M = 0 ∧ e = M - a ∧ M - a ≤ d) ∨ ((a + e) % M ≠ 0 ∧ e = d ∧ d < M - a) := by
  have hshort : ∀ m, 0 < m → m < d → m < M - a → (a + m) % M % d ≠ 0 := by
    intro m hm hmd hmM
    rw [Nat.mod_eq_of_lt (show a + m < M by omega), Nat.add_mod, ha, Nat.zero_add, Nat.mod_mod, Nat.mod_eq_of_lt hmd]
    omega
  rcases lt_or_ge d (M - a) with hfar | hnear
  · have hadd : (a + d) % M = a + d := Nat.mod_eq_of_lt (by omega)
    have hnext : (a + d) % M % d = 0 := by rw [hadd, Nat.add_mod_right, ha]
    obtain rfl : e = d := by
      rcases lt_trichotomy e d with hed | hed | hed
      · exact absurd hmult (hshort e he hed (by omega))
      · exact hed
      · exact absurd hnext (hbetween d hd hed)
    exact .inr ⟨by omega, rfl, hfar⟩
  · have hwrap : (a + (M - a)) % M = 0 := by rw [Nat.add_sub_of_le hlt.le, Nat.mod_self]
    obtain rfl : e = M - a := by
      rcases lt_trichotomy e (M - a) with heM | heM | heM
      · exact absurd hmult (hshort e he (by omega) heM)
      · exact heM
      · exact absurd (by rw [hwrap, Nat.zero_mod]) (hbetween (M - a) (by omega) heM)
    exact .inl ⟨hwrap, rfl, hnear⟩

/-- The distance of the last multiple below `M` from `M`. -/
theorem sub_last_multiple {a d M : Nat} (ha : a % d = 0) (hlt : a < M) (hnear : M - a ≤ d) :
    M - a = 1 + (M - 1) % d := by
  have hsplit : M - 1 = d * (a / d) + (M - 1 - a) := by
    have hquot := Nat.div_add_mod a d
    omega
  rw [hsplit, Nat.mul_add_mod, Nat.mod_eq_of_lt (by omega)]
  omega

/-- Between two successive changes of `led_o` in ticks with command 0 the count goes from a multiple of the divisor to
the next one. -/
theorem TickRun.next_multiple {xs : List Stimulus} {u : Nat → State} {i j : Nat} (h : TickRun xs u) (hinv : Inv (u 0))
    (hidle : ∀ k ≤ xs.length, 1 ≤ k → (u k).lines.comp = false) (hij : i < j) (hj : j < xs.length)
    (hfirst : (u (i + 1)).lines.led ≠ (u i).lines.led)
    (hsame : ∀ k, i < k → k < j → (u (k + 1)).lines.led = (u k).lines.led)
    (hsecond : (u (j + 1)).lines.led ≠ (u j).lines.led) :
    ((u j).act.ledCnt.toNat = 0 ∧ j - i = (u 0).cfg.ledCntMod.toNat - (u i).act.ledCnt.toNat ∧
      (u 0).cfg.ledCntMod.toNat - (u i).act.ledCnt.toNat ≤ (u 0).cfg.ledIdleDiv.toNat) ∨
    ((u j).act.ledCnt.toNat ≠ 0 ∧ j - i = (u 0).cfg.ledIdleDiv.toNat ∧
      (u 0).cfg.ledIdleDiv.toNat < (u 0).cfg.ledCntMod.toNat - (u i).act.ledCnt.toNat) := by
  obtain ⟨-, -, -, -, hd, -⟩ := (cfgCheck_none_iff (u 0).cfg).1 hinv.configured
  have hchange {k : Nat} (hk : k < xs.length) := h.led_ne_iff_of_idle hinv hk (hidle (k + 1) hk (by omega))
  have hcount (m : Nat) (hm : m ≤ j - i) :
      (u (i + m)).act.ledCnt.toNat = ((u i).act.ledCnt.toNat + m) % (u 0).cfg.ledCntMod.toNat := by
    rw [h.ledCnt hinv (k := i + m) (by omega), h.ledCnt hinv (k := i) (by omega), Nat.mod_add_mod, add_assoc]
  have hcountj := hcount (j - i) le_rfl
  rw [Nat.add_sub_of_le hij.le] at hcountj
  have hlt : (u i).act.ledCnt.toNat < (u 0).cfg.ledCntMod.toNat := by
    obtain ⟨hinvi, hcfg⟩ := h.inv hinv (show i ≤ xs.length by omega)
    rw [← hcfg]
    exact hinvi.count
  rw [hcountj]
  refine Machine.next_multiple hd ((hchange (by omega)).1 hfirst) hlt (by omega) ?_ ?_
  · rw [← hcountj]
    exact (hchange hj).1 hsecond
  · intro m hm hmj
    rw [← hcount m hmj.le]
    exact fun hzero => (hchange (by omega)).2 hzero (hsame (i + m) (by omega) (by omega))

end Sys2Proof.Machine

open Sys2Proof
open Sys2Proof.Machine

/-- Settles O50: a change takes the sensor temperature to a threshold, the next change to the other one, and the two are
twice the half-band apart. -/
theorem compressorChangesNeedTwoHalfBands : Obligations.CompressorChangesNeedTwoHalfBands := by
  unfold Obligations.CompressorChangesNeedTwoHalfBands
  intro xs u setpoint i j hinv hrun hij hj hset hfirst hbetween hsecond
  have hi := hrun.cooling hinv (hij.trans hj)
  have hj' := hrun.cooling hinv hj
  rw [hset (i + 1) (by omega) (by omega)] at hi
  rw [hset (j + 1) (by omega) (by omega), hbetween j hij le_rfl] at hj'
  rw [hbetween j hij le_rfl] at hsecond
  cases hbefore : (u i).cooling with
  | false =>
    have hon : (u (i + 1)).cooling = true := by simpa [hbefore] using hfirst.symm
    have hoff : (u (j + 1)).cooling = false := by simpa [hon] using hsecond.symm
    rw [hbefore, hon] at hi
    rw [hon, hoff] at hj'
    have hup := ctrlStep_from_off hi.symm
    have hdown := ctrlStep_from_on hj'.symm
    omega
  | true =>
    have hoff : (u (i + 1)).cooling = false := by simpa [hbefore] using hfirst.symm
    have hon : (u (j + 1)).cooling = true := by simpa [hoff] using hsecond.symm
    rw [hbefore, hoff] at hi
    rw [hoff, hon] at hj'
    have hdown := ctrlStep_from_on hi.symm
    have hup := ctrlStep_from_off hj'.symm
    omega

/-- Settles O51, by induction on the ticks: strictly inside the dead band the control law keeps the state. -/
theorem deadBandNeverChatters : Obligations.DeadBandNeverChatters := by
  unfold Obligations.DeadBandNeverChatters
  intro xs u hinv hrun hinside k
  induction k with
  | zero => exact fun _ => rfl
  | succ k ih =>
    intro hk
    obtain ⟨hlo, hhi⟩ := hinside (k + 1) hk (by omega)
    rw [hrun.cooling hinv hk, ctrlStep_dead hlo hhi, ih (by omega)]

/-- Settles O53: a tick changes `led_o` as `TickRun.led_ne_iff` says; the number of changes is that of the ticks under
command 1, and under command 0 it follows the quotient by the divisor, rounded up (`ceilQuot_succ`). -/
theorem indicatorRates : Obligations.IndicatorRates := by
  unfold Obligations.IndicatorRates
  intro xs u hinv hrun
  refine ⟨fun k hk => (hrun.inv hinv hk).1.led, fun k hk => hrun.led_ne_iff hinv hk, ?cooling, ?idle⟩
  case cooling =>
    intro hcooling
    exact eq_xor_parity (b := fun k => (u k).lines.led) (changes := id) rfl fun k hk =>
      .inl ⟨hrun.led_ne_of_cooling hinv hk (hcooling (k + 1) hk (by omega)), rfl⟩
  case idle =>
    intro hidle hwrap
    obtain ⟨-, -, -, -, hd, -⟩ := (cfgCheck_none_iff (u 0).cfg).1 hinv.configured
    refine eq_xor_parity (b := fun k => (u k).lines.led)
      (changes := fun k => ceilQuot ((u 0).act.ledCnt.toNat + k) (u 0).cfg.ledIdleDiv.toNat -
        ceilQuot (u 0).act.ledCnt.toNat (u 0).cfg.ledIdleDiv.toNat) (Nat.sub_self _) fun k hk => ?_
    have hchange := hrun.led_ne_iff_of_idle hinv hk (hidle (k + 1) hk (by omega))
    have hcount : (u k).act.ledCnt.toNat = (u 0).act.ledCnt.toNat + k := by
      rw [hrun.ledCnt hinv hk.le]
      exact Nat.mod_eq_of_lt (by omega)
    rw [hcount] at hchange
    have hceil := ceilQuot_succ (m := (u 0).act.ledCnt.toNat + k) hd
    have hmono := ceilQuot_mono ((u 0).act.ledCnt.toNat.le_add_right k) (u 0).cfg.ledIdleDiv.toNat
    by_cases hmod : ((u 0).act.ledCnt.toNat + k) % (u 0).cfg.ledIdleDiv.toNat = 0
    · rw [if_pos hmod] at hceil
      exact .inl ⟨hchange.2 hmod, by rw [← add_assoc, hceil]; omega⟩
    · rw [if_neg hmod, add_zero] at hceil
      exact .inr ⟨not_not.1 (mt hchange.1 hmod), by rw [← add_assoc, hceil]⟩

/-- Settles O54: the count is `TickRun.ledCnt`; two successive changes are at successive multiples of the divisor
(`TickRun.next_multiple`), the second of which is the 0 of the wrap or the divisor further on. -/
theorem tickCounterWraps : Obligations.TickCounterWraps := by
  unfold Obligations.TickCounterWraps
  intro xs u hinv hrun
  refine ⟨fun k hk => hrun.ledCnt hinv hk, ?spacing⟩
  case spacing =>
    intro hidle i j hij hj hfirst hsame hsecond
    have hmult : (u i).act.ledCnt.toNat % (u 0).cfg.ledIdleDiv.toNat = 0 :=
      (hrun.led_ne_iff_of_idle hinv (hij.trans hj) (hidle (i + 1) (by omega) (by omega))).1 hfirst
    have hzero : (u j).act.ledCnt = 0 ↔ (u j).act.ledCnt.toNat = 0 := BitVec.toNat_eq
    rw [ne_eq, hzero]
    rcases hrun.next_multiple hinv hidle hij hj hfirst hsame hsecond with ⟨hwrap, hdist, hnear⟩ | ⟨hnowrap, hdist, hfar⟩
    · have hlt : (u i).act.ledCnt.toNat < (u 0).cfg.ledCntMod.toNat := by omega
      rw [hdist]
      refine ⟨fun _ => sub_last_multiple hmult hlt hnear, absurd hwrap, fun hdvd => ?_, fun hndvd _ => ?_⟩
      · have hdvd' := Nat.dvd_sub hdvd (Nat.dvd_of_mod_eq_zero hmult)
        exact hnear.antisymm (Nat.le_of_dvd (by omega) hdvd')
      · refine lt_of_le_of_ne hnear fun hd => hndvd ?_
        rw [← Nat.sub_add_cancel hlt.le, hd]
        exact (Nat.dvd_refl _).add (Nat.dvd_of_mod_eq_zero hmult)
    · exact ⟨fun h => absurd h hnowrap, fun _ => hdist, fun _ => hdist, fun _ h => absurd h hnowrap⟩

end
